-- ==== Sys2Proof/Word.lean ====
section
/-! DEFINITION. The one word type of RAR-FE: the byte (00_scope.md R7 `BYTE_W`, R10, R12). -/

namespace Sys2Proof

/-- A wire byte or a data register: 8 bits, unsigned (00_scope.md R7, R10).
`^`, `~`, `+ 1` of R12 are `^^^`, `~~~`, `+` of `BitVec 8`. -/
abbrev Byte := BitVec 8

end Sys2Proof
end

