-- ==== Sys2Proof/Config.lean ====
section
/-! DEFINITION. Constants, parameters and free values of RAR-FE (00_scope.md R7, R8). -/

namespace Sys2Proof

/-- `HDR_ORDER` (00_scope.md R8): which header byte follows `START`. -/
inductive HdrOrder where
  | addrFirst
  | ctrlFirst
deriving DecidableEq, Repr

/-- `CRC_DOMAIN` (00_scope.md R8): the checksum covers the bytes as transmitted, or their logical values. -/
inductive CrcDomain where
  | wire
  | logical
deriving DecidableEq, Repr

namespace Config

/-- Frame start delimiter (00_scope.md R7). -/
def START : Byte := 0x96#8

/-- Frame stop delimiter (00_scope.md R7). -/
def STOP : Byte := 0xA9#8

/-- Value XORed into an escaped byte (00_scope.md R7). -/
def ESC_MASK : Byte := 0x01#8

/-- Largest number of data bytes in a frame (00_scope.md R7). -/
def MAX_DATA : Nat := 3

/-- Bytes of a frame with no data byte (00_scope.md R7). -/
def MIN_FRAME : Nat := 5

/-- Bytes of a frame with three data bytes (00_scope.md R7). -/
def MAX_FRAME : Nat := 8

/-- The value this hardware takes: address before control (90_conflicts.md C1). -/
def hdrOrder : HdrOrder := .addrFirst

/-- The value this hardware takes: wire bytes (90_conflicts.md C2). -/
def crcDomain : CrcDomain := .wire

/-- `LOOPBACK` (00_scope.md R8, 92_eei_decisions.md D22): whether the receiver hears the transmitter.
OPEN in the spec, so a constant nothing can evaluate (assumption 9). -/
opaque loopback : Bool

/-- With `LOOPBACK`, whether an emitted byte is heard before the next outstanding event, drawn at a value of
`State.freeCount`: the spec fixes only that it is heard before the next `TxByte` (D22, 20_memory.md R62;
assumption 9). -/
opaque echoFirst : Nat → Bool

/-- The free byte: every register the spec calls unspecified after an operation holds one, drawn at a fresh value
of `State.freeCount` (10_state.md R28, R44, 42_transmitter.md R161; assumption 2). -/
opaque freeByte : Nat → Byte

/-- `REPLY_ADDR` (environment, D20): the address a reply carries, chosen by the host for each reply. OPEN. -/
opaque replyAddr : Nat → Byte

/-- Any byte, the matter of `nodeAddrFallback`. -/
opaque fallbackDraw : Byte

/-- `NODE_ADDR_FALLBACK` (environment, D21): OPEN, but not `0xFF`. The value 0 stands in for the one draw that
D21 excludes, so that every admitted value remains possible. -/
def nodeAddrFallback : Byte := if fallbackDraw = 0xFF#8 then 0#8 else fallbackDraw

end Config
end Sys2Proof
end

