-- ==== Sys2Proof/Syntax.lean ====
section
/-! DEFINITION. The operations of RAR-FE, one constructor of `Instr` for each row of spec/opcode_table.json, and the
items from which they are read (30_encoding.md R80 to R83). -/

namespace Sys2Proof

/-- The six values of `rx_state` (10_state.md R21); codes 6 and 7 are not representable. -/
inductive RxState where
  | waitStart
  | readAddress
  | readControl
  | readData
  | readCrc
  | expectStop
deriving DecidableEq, Repr

/-- 0 to 3 data bytes given as a count and three bytes, of which the first `n` count (30_encoding.md R80, `TxLoad`).
A longer list cannot be given (40_codec.md R108). -/
structure Payload where
  n : BitVec 2
  d0 : Byte
  d1 : Byte
  d2 : Byte
deriving DecidableEq, Repr

/-- The fields of a control byte but its reserved bit (30_encoding.md R72, R73). -/
structure CtlFields where
  dir : Bool
  fa : Bool
  f0 : Bool
  f1 : Bool
  f2 : Bool
  n : BitVec 2
deriving DecidableEq, Repr

/-- One constructor per row of spec/opcode_table.json, in the table's order. -/
inductive Instr where
  /-- RX.START (R133): the byte `0x96` in `WAIT_START`. -/
  | rxStart
  /-- RX.SKIP (R132): any other byte in `WAIT_START`. -/
  | rxSkip (b : Byte)
  /-- RX.ADDR (R134). -/
  | rxAddr (b : Byte)
  /-- RX.CTRL (R135). -/
  | rxCtrl (b : Byte)
  /-- RX.DATA (R136). -/
  | rxData (b : Byte)
  /-- RX.CRC (R137). -/
  | rxCrc (b : Byte)
  /-- RX.STOP (R138): the byte `0xA9` in `EXPECT_STOP`. -/
  | rxStop
  /-- RX.BADSTOP (R139): any other byte in `EXPECT_STOP`. -/
  | rxBadstop (b : Byte)
  /-- RX.LINE_ERR (R141). -/
  | rxLineErr
  /-- HOST.ACK (R176). -/
  | hostAck
  /-- HOST.CLRERR (R177). -/
  | hostClrerr
  /-- HOST.READ (R178). -/
  | hostRead
  /-- TX.LOAD (R161). -/
  | txLoad (dir : Bool) (addr : Byte) (p : Payload)
  /-- TX.NEXT (R162). -/
  | txNext
  /-- EV.RESERVED_7 (R84): event kind 7. -/
  | evReserved7
  /-- EV.RESERVED_8_B (R84): event kinds 8 to 0xB; `k` is `ev[9:8]`. -/
  | evReserved8B (k : BitVec 2)
  /-- EV.RESERVED_C_D (R84): event kinds 0xC and 0xD; `k` is `ev[8]`. -/
  | evReservedCD (k : BitVec 1)
  /-- EV.RESERVED_E (R84): event kind 0xE. -/
  | evReservedE
  /-- RESET (R240). -/
  | reset
  /-- START (R78): the delimiter byte, a byte format. -/
  | startByte
  /-- STOP (R78): the delimiter byte, a byte format. -/
  | stopByte
  /-- CTRLBYTE (R72): the control byte's format `DA0cbaNN`; `rsv` is its bit 5. -/
  | ctrlByte (rsv : Bool) (f : CtlFields)
  /-- ISDELIM (R101). -/
  | isdelim (b : Byte)
  /-- ESC (R102). -/
  | esc (v : Byte)
  /-- UNESC (R103). -/
  | unesc (w : Byte) (f : Bool)
  /-- CTLPACK (R104). -/
  | ctlpack (f : CtlFields)
  /-- CTLUNPACK (R105). -/
  | ctlunpack (c : Byte)
  /-- CRCGEN (R106). -/
  | crcgen (c aw : Byte) (dw : Payload)
  /-- ENCODE (R108). -/
  | encode (dir : Bool) (addr : Byte) (data : Payload)
  /-- VALIDATE (R110); all three data bytes are given, the first `c[1:0]` are read. -/
  | validate (c aw d0 d1 d2 k : Byte)
  /-- DECODE (R111): a byte list of any length. -/
  | decode (s : List Byte)
deriving DecidableEq, Repr

/-- What a step is given: the item an `Instr` is read from (30_encoding.md R81, R83). -/
inductive Input where
  /-- An event: the 12-bit event word, and the separate 35-bit word `txop` that `TxLoad` alone reads (R81). -/
  | event (ev : BitVec 12) (txop : BitVec 35)
  /-- A byte of format `BYTE8` (R83), taken as a byte format and not as a received byte (assumption 6). -/
  | byte8 (b : Byte)
  /-- A call of a combinational function: format `FUNC`, which has no encoding (R82; assumption 6). -/
  | call (i : Instr)
deriving DecidableEq, Repr

/-- The rows of format `FUNC` (30_encoding.md R82). -/
def Instr.isFunc : Instr → Bool
  | .isdelim _ | .esc _ | .unesc _ _ | .ctlpack _ | .ctlunpack _ | .crcgen _ _ _ | .encode _ _ _
  | .validate _ _ _ _ _ _ | .decode _ => true
  | .rxStart | .rxSkip _ | .rxAddr _ | .rxCtrl _ | .rxData _ | .rxCrc _ | .rxStop | .rxBadstop _ | .rxLineErr
  | .hostAck | .hostClrerr | .hostRead | .txLoad _ _ _ | .txNext
  | .evReserved7 | .evReserved8B _ | .evReservedCD _ | .evReservedE | .reset
  | .startByte | .stopByte | .ctrlByte _ _ => false

/-- The row's mnemonic in spec/opcode_table.json. -/
def Instr.mnemonic : Instr → String
  | .rxStart => "RX.START"
  | .rxSkip _ => "RX.SKIP"
  | .rxAddr _ => "RX.ADDR"
  | .rxCtrl _ => "RX.CTRL"
  | .rxData _ => "RX.DATA"
  | .rxCrc _ => "RX.CRC"
  | .rxStop => "RX.STOP"
  | .rxBadstop _ => "RX.BADSTOP"
  | .rxLineErr => "RX.LINE_ERR"
  | .hostAck => "HOST.ACK"
  | .hostClrerr => "HOST.CLRERR"
  | .hostRead => "HOST.READ"
  | .txLoad _ _ _ => "TX.LOAD"
  | .txNext => "TX.NEXT"
  | .evReserved7 => "EV.RESERVED_7"
  | .evReserved8B _ => "EV.RESERVED_8_B"
  | .evReservedCD _ => "EV.RESERVED_C_D"
  | .evReservedE => "EV.RESERVED_E"
  | .reset => "RESET"
  | .startByte => "START"
  | .stopByte => "STOP"
  | .ctrlByte _ _ => "CTRLBYTE"
  | .isdelim _ => "ISDELIM"
  | .esc _ => "ESC"
  | .unesc _ _ => "UNESC"
  | .ctlpack _ => "CTLPACK"
  | .ctlunpack _ => "CTLUNPACK"
  | .crcgen _ _ _ => "CRCGEN"
  | .encode _ _ _ => "ENCODE"
  | .validate _ _ _ _ _ _ => "VALIDATE"
  | .decode _ => "DECODE"

/-- The states in which a row applies: the state its format `EV12@<state>` names, or any (30_encoding.md R82, R83). -/
def Instr.selectedIn : Instr → RxState → Bool
  | .rxStart, st | .rxSkip _, st => st == .waitStart
  | .rxAddr _, st => st == .readAddress
  | .rxCtrl _, st => st == .readControl
  | .rxData _, st => st == .readData
  | .rxCrc _, st => st == .readCrc
  | .rxStop, st | .rxBadstop _, st => st == .expectStop
  | .rxLineErr, _ | .hostAck, _ | .hostClrerr, _ | .hostRead, _ | .txLoad _ _ _, _ | .txNext, _
  | .evReserved7, _ | .evReserved8B _, _ | .evReservedCD _, _ | .evReservedE, _ | .reset, _
  | .startByte, _ | .stopByte, _ | .ctrlByte _ _, _
  | .isdelim _, _ | .esc _, _ | .unesc _ _, _ | .ctlpack _, _ | .ctlunpack _, _ | .crcgen _ _ _, _
  | .encode _ _ _, _ | .validate _ _ _ _ _ _, _ | .decode _, _ => true

end Sys2Proof
end

