-- ==== Sys2Proof/WellFormed.lean ====
section
/-! DEFINITION. The checks on an operation that its type does not make (30_encoding.md R72, R82, R83). -/

namespace Sys2Proof

/-- The fields of the byte `0x96` read as a control byte: n = 2, f[0] and f[2] set, dir set (41_receiver.md R135). -/
def startFields : CtlFields := { dir := true, fa := false, f0 := true, f1 := false, f2 := true, n := 2 }

/-- RX.SKIP is for bytes other than `START` and RX.BADSTOP for bytes other than `STOP` (30_encoding.md R82). A control
byte's bit 5 is 0 (R72), and as a byte format it is not the byte of the row START, which is tried first (R83). -/
def Instr.wf : Instr → Bool
  | .rxSkip b => b != Config.START
  | .rxBadstop b => b != Config.STOP
  | .ctrlByte rsv f => !rsv && f != startFields
  | .rxStart | .rxAddr _ | .rxCtrl _ | .rxData _ | .rxCrc _ | .rxStop | .rxLineErr
  | .hostAck | .hostClrerr | .hostRead | .txLoad _ _ _ | .txNext
  | .evReserved7 | .evReserved8B _ | .evReservedCD _ | .evReservedE | .reset | .startByte | .stopByte
  | .isdelim _ | .esc _ | .unesc _ _ | .ctlpack _ | .ctlunpack _ | .crcgen _ _ _ | .encode _ _ _
  | .validate _ _ _ _ _ _ | .decode _ => true

end Sys2Proof
end

