-- ==== Sys2Proof/Decode.lean ====
section
/-! DEFINITION. The decoder and the encoder of RAR-FE's event words, byte formats and function calls
(30_encoding.md R72, R81 to R84), and the opcode table's event rows. -/

namespace Sys2Proof

/-- `b[1:0]`: the data count of a control byte (30_encoding.md R73). -/
def ctlCount (c : Byte) : BitVec 2 := c.extractLsb' 0 2

/-- The fields of a control byte, bit 5 not examined (30_encoding.md R73). -/
def ctlFieldsOf (c : Byte) : CtlFields :=
  { dir := c.getLsbD 7, fa := c.getLsbD 6, f0 := c.getLsbD 2, f1 := c.getLsbD 3, f2 := c.getLsbD 4, n := ctlCount c }

/-- A bit at a place of a byte. -/
def bitAt (b : Bool) (k : Nat) : Byte := if b then 1#8 <<< k else 0#8

/-- The control byte `D A r c b a N N` of its fields (30_encoding.md R72). -/
def ctlLayout (rsv : Bool) (f : CtlFields) : Byte :=
  bitAt f.dir 7 ||| bitAt f.fa 6 ||| bitAt rsv 5 ||| bitAt f.f2 4 ||| bitAt f.f1 3 ||| bitAt f.f0 2 |||
    f.n.setWidth 8

/-- Why a word is not an instruction. -/
inductive DecodeError where
  /-- The item calls an operation that is not a row of format `FUNC`, so it is nothing a step can be given. -/
  | notAFunction
deriving DecidableEq, Repr

/-- The operation that a received byte selects, by `rx_state` (30_encoding.md R82). -/
def decodeRxByte (st : RxState) (b : Byte) : Instr :=
  match st with
  | .waitStart => if b = Config.START then .rxStart else .rxSkip b
  | .readAddress => .rxAddr b
  | .readControl => .rxCtrl b
  | .readData => .rxData b
  | .readCrc => .rxCrc b
  | .expectStop => if b = Config.STOP then .rxStop else .rxBadstop b

/-- `TxLoad` with its operands taken from `txop` (30_encoding.md R81). -/
def decodeTxop (t : BitVec 35) : Instr :=
  .txLoad (t.getLsbD 34) (t.extractLsb' 24 8)
    { n := t.extractLsb' 32 2, d0 := t.extractLsb' 0 8, d1 := t.extractLsb' 8 8, d2 := t.extractLsb' 16 8 }

/-- The kind of an event word, `ev[11:8]` (30_encoding.md R81). -/
def evKind (ev : BitVec 12) : BitVec 4 := ev.extractLsb' 8 4

/-- The operand byte of an event word, `ev[7:0]` (30_encoding.md R81). -/
def evByte (ev : BitVec 12) : Byte := ev.extractLsb' 0 8

/-- The operation an event selects: total on words and states (30_encoding.md R81, R82, R84). The operand byte of a
kind that has none is ignored. -/
def decodeEvent (st : RxState) (ev : BitVec 12) (txop : BitVec 35) : Instr :=
  match (evKind ev).toNat with
  | 0x0 => decodeRxByte st (evByte ev)
  | 0x1 => .rxLineErr
  | 0x2 => .hostAck
  | 0x3 => .hostClrerr
  | 0x4 => .hostRead
  | 0x5 => decodeTxop txop
  | 0x6 => .txNext
  | 0x7 => .evReserved7
  | 0x8 => .evReserved8B 0
  | 0x9 => .evReserved8B 1
  | 0xA => .evReserved8B 2
  | 0xB => .evReserved8B 3
  | 0xC => .evReservedCD 0
  | 0xD => .evReservedCD 1
  | 0xE => .evReservedE
  | _ => .reset

/-- A byte as one of the three `BYTE8` rows: the exact patterns first, then the control byte's (30_encoding.md R83). -/
def decodeByte8 (b : Byte) : Instr :=
  if b = Config.START then .startByte
  else if b = Config.STOP then .stopByte
  else .ctrlByte (b.getLsbD 5) (ctlFieldsOf b)

/-- THE DECODER: the operation that an item selects in `rx_state = st`, or the reason there is none. -/
def decode (st : RxState) : Input → Except DecodeError Instr
  | .event ev txop => .ok (decodeEvent st ev txop)
  | .byte8 b => .ok (decodeByte8 b)
  | .call i => if i.isFunc then .ok i else .error .notAFunction

/-! ### The encoder -/

/-- The event word of kind `k` with operand byte `b` (30_encoding.md R81). -/
def evWord (k : BitVec 4) (b : Byte) : BitVec 12 := k ++ b

/-- `txop` of a `TxLoad` (30_encoding.md R81): dir, n, addr, d2, d1, d0 from bit 34 down. -/
def txopOf (dir : Bool) (addr : Byte) (p : Payload) : BitVec 35 :=
  BitVec.ofBool dir ++ p.n ++ addr ++ p.d2 ++ p.d1 ++ p.d0

/-- THE ENCODER: the item that stands for an operation (30_encoding.md R72, R81). Unused operand bytes are 0. -/
def encode : Instr → Input
  | .rxStart => .event (evWord 0x0 Config.START) 0
  | .rxSkip b => .event (evWord 0x0 b) 0
  | .rxAddr b => .event (evWord 0x0 b) 0
  | .rxCtrl b => .event (evWord 0x0 b) 0
  | .rxData b => .event (evWord 0x0 b) 0
  | .rxCrc b => .event (evWord 0x0 b) 0
  | .rxStop => .event (evWord 0x0 Config.STOP) 0
  | .rxBadstop b => .event (evWord 0x0 b) 0
  | .rxLineErr => .event (evWord 0x1 0) 0
  | .hostAck => .event (evWord 0x2 0) 0
  | .hostClrerr => .event (evWord 0x3 0) 0
  | .hostRead => .event (evWord 0x4 0) 0
  | .txLoad dir addr p => .event (evWord 0x5 0) (txopOf dir addr p)
  | .txNext => .event (evWord 0x6 0) 0
  | .evReserved7 => .event (evWord 0x7 0) 0
  | .evReserved8B k => .event (evWord (2#2 ++ k) 0) 0
  | .evReservedCD k => .event (evWord (6#3 ++ k) 0) 0
  | .evReservedE => .event (evWord 0xE 0) 0
  | .reset => .event (evWord 0xF 0) 0
  | .startByte => .byte8 Config.START
  | .stopByte => .byte8 Config.STOP
  | .ctrlByte rsv f => .byte8 (ctlLayout rsv f)
  | .isdelim b => .call (.isdelim b)
  | .esc v => .call (.esc v)
  | .unesc w f => .call (.unesc w f)
  | .ctlpack f => .call (.ctlpack f)
  | .ctlunpack c => .call (.ctlunpack c)
  | .crcgen c aw dw => .call (.crcgen c aw dw)
  | .encode dir addr data => .call (.encode dir addr data)
  | .validate c aw d0 d1 d2 k => .call (.validate c aw d0 d1 d2 k)
  | .decode s => .call (.decode s)

/-- The event `RxByte(b)` (30_encoding.md R80). -/
def rxByteInput (b : Byte) : Input := .event (evWord 0x0 b) 0

/-! ### The opcode table's event rows -/

/-- A row of format `EV12@<state>` or `EV12@ANY` (30_encoding.md R83). -/
structure EventRow where
  mnemonic : String
  state : Option RxState
  mask : BitVec 12
  pattern : BitVec 12
deriving DecidableEq, Repr

/-- The 19 event rows of spec/opcode_table.json, in its order, which is their priority (30_encoding.md R83). -/
def eventRows : List EventRow :=
  [ ⟨"RX.START", some .waitStart, 0xFFF, 0x096⟩,
    ⟨"RX.SKIP", some .waitStart, 0xF00, 0x000⟩,
    ⟨"RX.ADDR", some .readAddress, 0xF00, 0x000⟩,
    ⟨"RX.CTRL", some .readControl, 0xF00, 0x000⟩,
    ⟨"RX.DATA", some .readData, 0xF00, 0x000⟩,
    ⟨"RX.CRC", some .readCrc, 0xF00, 0x000⟩,
    ⟨"RX.STOP", some .expectStop, 0xFFF, 0x0A9⟩,
    ⟨"RX.BADSTOP", some .expectStop, 0xF00, 0x000⟩,
    ⟨"RX.LINE_ERR", none, 0xF00, 0x100⟩,
    ⟨"HOST.ACK", none, 0xF00, 0x200⟩,
    ⟨"HOST.CLRERR", none, 0xF00, 0x300⟩,
    ⟨"HOST.READ", none, 0xF00, 0x400⟩,
    ⟨"TX.LOAD", none, 0xF00, 0x500⟩,
    ⟨"TX.NEXT", none, 0xF00, 0x600⟩,
    ⟨"EV.RESERVED_7", none, 0xF00, 0x700⟩,
    ⟨"EV.RESERVED_8_B", none, 0xC00, 0x800⟩,
    ⟨"EV.RESERVED_C_D", none, 0xE00, 0xC00⟩,
    ⟨"EV.RESERVED_E", none, 0xF00, 0xE00⟩,
    ⟨"RESET", none, 0xF00, 0xF00⟩ ]

/-- A row applies in a state when its format names that state or `ANY` (30_encoding.md R83). -/
def EventRow.appliesIn (r : EventRow) (st : RxState) : Bool :=
  match r.state with
  | none => true
  | some st' => st == st'

/-- `(ev & mask) == match` (30_encoding.md R83). -/
def EventRow.fits (r : EventRow) (ev : BitVec 12) : Bool := (ev &&& r.mask) == r.pattern

/-- The first row that applies in the state and fits the word (30_encoding.md R83). -/
def rowOf (st : RxState) (ev : BitVec 12) : Option EventRow :=
  eventRows.find? fun r => r.appliesIn st && r.fits ev

/-! ### A table word that comes without a state (assumption 7) -/

/-- The item whose bits are `w`: one byte is a `BYTE8` format, more bits are an event word in bits 11..0 of a 16-bit
word with `txop` counted on from bit 16; no bits are no item. -/
def tableInput (nbits w : Nat) : Option Input :=
  if nbits = 0 then none
  else if nbits ≤ 8 then some (.byte8 (BitVec.ofNat 8 w))
  else some (.event (BitVec.ofNat 12 w) (BitVec.ofNat 35 (w / 65536)))

/-- The `rx_state` that selects the table's row for an item: the rows of exact match first (30_encoding.md R83), so
`0x0A9` is RX.STOP's word, and every other received byte is looked up in `WAIT_START`. An item whose row applies in any
state keeps the state `st` it finds. -/
def tableState (st : RxState) : Input → RxState
  | .event ev _ => if evKind ev = 0 then (if ev = 0x0A9#12 then .expectStop else .waitStart) else st
  | .byte8 _ => st
  | .call _ => st

/-- The instruction that the decoder reads from a table word. -/
def decodeTableWord (nbits w : Nat) : Option Instr :=
  match tableInput nbits w with
  | none => none
  | some x =>
    match decode (tableState .waitStart x) x with
    | .ok i => some i
    | .error _ => none

end Sys2Proof
end

