-- ==== Sys2Proof/Machine/State.lean ====
section
/-! DEFINITION. The state of RAR-FE (10_state.md R20 to R35), the model's own fields beside it, and the state after
reset (10_state.md R44, 70_reset_and_hazards.md R240). -/

namespace Sys2Proof.Machine

/-- A register array of three bytes (`rx_data`, `out_data`; 10_state.md R20). -/
structure Bytes3 where
  b0 : Byte
  b1 : Byte
  b2 : Byte
deriving DecidableEq, Repr

/-- A register array of eight bytes (`tx_buf`; 10_state.md R32). -/
structure Bytes8 where
  b0 : Byte
  b1 : Byte
  b2 : Byte
  b3 : Byte
  b4 : Byte
  b5 : Byte
  b6 : Byte
  b7 : Byte
deriving DecidableEq, Repr

/-- `rx_cause` (10_state.md R31, 60_exceptions.md R211), codes 0 to 3 in this order. -/
inductive Cause where
  | none
  | framingStop
  | framingLine
  | checksum
deriving DecidableEq, Repr

/-- The 2-bit code of `rx_cause` (10_state.md R31). -/
def Cause.code : Cause → BitVec 2
  | .none => 0
  | .framingStop => 1
  | .framingLine => 2
  | .checksum => 3

/-- A logical frame with its raw control and checksum bytes (00_scope.md R17, 30_encoding.md R80, 40_codec.md R110). -/
structure Frame where
  dir : Bool
  addr : Byte
  data : List Byte
  ctrl : Byte
  crc : Byte
deriving DecidableEq, Repr

/-- The failures of the whole-frame functions (40_codec.md R110, R111). -/
inductive CodecError where
  | framing
  | checksum
deriving DecidableEq, Repr

/-- The result of `VALIDATE` and `DECODE` (40_codec.md R110, R111). -/
inductive Verdict where
  | frame (f : Frame)
  | failed (e : CodecError)
deriving DecidableEq, Repr

/-- An output event (30_encoding.md R80). -/
inductive Output where
  | published (f : Frame)
  | discarded (c : Cause)
  | txByte (b : Byte)
  | readResult (f : Frame)
deriving DecidableEq, Repr

/-- Why an operation is not accepted (30_encoding.md R84). -/
inductive Unaccepted where
  /-- An event of a reserved kind. -/
  | reservedKind
  /-- `TxLoad` while `tx_busy = 1`. -/
  | txBusy
  /-- `HostRead` while `frame_ready = 0`. -/
  | noFrame
deriving DecidableEq, Repr

/-- The value of a combinational function or of a byte format (40_codec.md R101 to R111, 30_encoding.md R72, R78). -/
inductive CodecValue where
  | bit (b : Bool)
  | byte (b : Byte)
  | escaped (w : Byte) (f : Bool)
  | fields (f : CtlFields)
  | bytes (l : List Byte)
  | verdict (v : Verdict)
deriving DecidableEq, Repr

/-- What the latest step answered: nothing, one output event (30_encoding.md R80: at most one), the notice that the
operation was refused (00_scope.md R13; assumption 1), or the value of a combinational function (assumption 6). -/
inductive Answer where
  | silent
  | emits (o : Output)
  | refuses (r : Unaccepted)
  | computes (v : CodecValue)
deriving DecidableEq, Repr

/-- The state of the block, and below the line the model's own fields. -/
structure State where
  /-- `rx_state` (R21). -/
  rxState : RxState
  /-- `rx_idx` (R22). -/
  rxIdx : BitVec 2
  /-- `rx_addr` (R23): as received. -/
  rxAddr : Byte
  /-- `rx_ctrl` (R24): as received. -/
  rxCtrl : Byte
  /-- `rx_data[0..2]` (R26): as received. -/
  rxData : Bytes3
  /-- `rx_crc` (R27): as received. -/
  rxCrc : Byte
  /-- `out_dir` (R28). -/
  outDir : Bool
  /-- `out_addr` (R28): logical. -/
  outAddr : Byte
  /-- `out_n` (R28). -/
  outN : BitVec 2
  /-- `out_data[0..2]` (R28): logical. -/
  outData : Bytes3
  /-- `out_ctrl` (R28). -/
  outCtrl : Byte
  /-- `out_crc` (R28). -/
  outCrc : Byte
  /-- `frame_ready` (R29). -/
  frameReady : Bool
  /-- `rx_error` (R30). -/
  rxError : Bool
  /-- `rx_cause` (R31). -/
  rxCause : Cause
  /-- `tx_buf[0..7]` (R32). -/
  txBuf : Bytes8
  /-- `tx_len` (R33). -/
  txLen : BitVec 4
  /-- `tx_pos` (R34). -/
  txPos : BitVec 4
  /-- `tx_busy` (R35). -/
  txBusy : Bool
  /-- The model's own: what the latest step answered (R80; assumption 1). -/
  answer : Answer
  /-- The model's own: the environment's outstanding events in the order they are taken (20_memory.md R59, R62;
  assumption 4). -/
  input : List Input
  /-- The model's own: with `LOOPBACK`, the emitted byte that the receiver has not heard yet (D22; assumption 9). -/
  echo : Option Byte
  /-- The model's own: how many free values have been drawn (assumption 2). -/
  freeCount : Nat
deriving DecidableEq, Repr

/-- What stops the machine: an access to an element that a register array does not have. No reachable state raises
either (10_state.md R41, R43). -/
inductive Fault where
  /-- Raised by RX.DATA with `rx_idx = 3`: there is no `rx_data[3]` (10_state.md R20, R26, R41). Safe. -/
  | rxDataIndex
  /-- Raised by TX.NEXT with `tx_busy = 1` and `tx_pos > 7`: there is no `tx_buf[8]` (10_state.md R32, R43). Safe. -/
  | txBufIndex
deriving DecidableEq, Repr

/-- What a step is not given a meaning for. -/
inductive Refusal where
  /-- Raised by an arm of `exec` for an instruction that has no meaning yet; no arm does. Safe. -/
  | notModelled (mnemonic : String)
  /-- Raised by `step` for an item that the decoder rejects: a call of an operation that is no function. Such an item
  is no event of the block (30_encoding.md R80, R82). Safe. -/
  | undecodable (e : DecodeError)
deriving DecidableEq, Repr

/-- The state after RESET (10_state.md R44). Registers that R44 leaves unspecified are 0 here (assumption 3: DESIGN
CHOICE); the model's own fields are empty. -/
def State.reset : State :=
  { rxState := .waitStart
    rxIdx := 0
    rxAddr := 0
    rxCtrl := 0
    rxData := ⟨0, 0, 0⟩
    rxCrc := 0
    outDir := false
    outAddr := 0
    outN := 0
    outData := ⟨0, 0, 0⟩
    outCtrl := 0
    outCrc := 0
    frameReady := false
    rxError := false
    rxCause := .none
    txBuf := ⟨0, 0, 0, 0, 0, 0, 0, 0⟩
    txLen := 0
    txPos := 0
    txBusy := false
    answer := .silent
    input := []
    echo := none
    freeCount := 0 }

end Sys2Proof.Machine
end

