-- ==== Sys2Proof/Machine/Operands.lean ====
section
/-! DEFINITION. Operand assembly: register arrays, data lists, escaping and the control byte (30_encoding.md R72 to R76,
40_codec.md R101 to R105). -/

namespace Sys2Proof.Machine

/-! ### Register arrays -/

/-- `x[i]` of a three-byte array; there is no element past the last (00_scope.md R13). -/
def Bytes3.get (x : Bytes3) : Nat → Option Byte
  | 0 => some x.b0
  | 1 => some x.b1
  | 2 => some x.b2
  | _ => none

/-- `x[i] <- v` of a three-byte array (00_scope.md R13). -/
def Bytes3.set (x : Bytes3) (i : Nat) (v : Byte) : Option Bytes3 :=
  match i with
  | 0 => some { x with b0 := v }
  | 1 => some { x with b1 := v }
  | 2 => some { x with b2 := v }
  | _ => none

/-- The elements 0 to 2 as a list. -/
def Bytes3.toList (x : Bytes3) : List Byte := [x.b0, x.b1, x.b2]

/-- The elements 0 to n - 1 as a list. -/
def Bytes3.first (x : Bytes3) (n : BitVec 2) : List Byte := x.toList.take n.toNat

/-- A three-byte array that holds the list and, past its end, the free bytes from `k` on (10_state.md R28). -/
def Bytes3.ofList (l : List Byte) (k : Nat) : Bytes3 :=
  ⟨l.getD 0 (Config.freeByte k), l.getD 1 (Config.freeByte (k + 1)), l.getD 2 (Config.freeByte (k + 2))⟩

/-- The elements of an eight-byte array as a list. -/
def Bytes8.toList (x : Bytes8) : List Byte := [x.b0, x.b1, x.b2, x.b3, x.b4, x.b5, x.b6, x.b7]

/-- `x[i]` of an eight-byte array (00_scope.md R13). -/
def Bytes8.get (x : Bytes8) (i : Nat) : Option Byte := x.toList[i]?

/-- An eight-byte array that holds the list and, past its end, the free bytes from `k` on (42_transmitter.md R161). -/
def Bytes8.ofList (l : List Byte) (k : Nat) : Bytes8 :=
  ⟨l.getD 0 (Config.freeByte k), l.getD 1 (Config.freeByte (k + 1)), l.getD 2 (Config.freeByte (k + 2)),
    l.getD 3 (Config.freeByte (k + 3)), l.getD 4 (Config.freeByte (k + 4)), l.getD 5 (Config.freeByte (k + 5)),
    l.getD 6 (Config.freeByte (k + 6)), l.getD 7 (Config.freeByte (k + 7))⟩

/-- The data bytes of a payload: the first `n` of `d0`, `d1`, `d2` (42_transmitter.md R161). -/
def payloadBytes (p : Payload) : List Byte := [p.d0, p.d1, p.d2].take p.n.toNat

/-! ### Escaping -/

/-- `ISDELIM` (40_codec.md R101). -/
def isDelim (b : Byte) : Bool := b == Config.START || b == Config.STOP

/-- `ESC` (40_codec.md R102): wire value and flag of a logical byte. -/
def escape (v : Byte) : Byte × Bool := if isDelim v then (v ^^^ Config.ESC_MASK, true) else (v, false)

/-- `UNESC` (40_codec.md R103): the logical byte, with no check of either operand. -/
def unescape (w : Byte) (f : Bool) : Byte := if f then w ^^^ Config.ESC_MASK else w

/-- Flags and wire bytes to logical bytes, in order (40_codec.md R110). -/
def unescapeAll (dw : List Byte) (flags : List Bool) : List Byte := List.zipWith unescape dw flags

/-! ### The control byte -/

/-- The data flags `f[0]`, `f[1]`, `f[2]` (30_encoding.md R72). -/
def dataFlags (f : CtlFields) : List Bool := [f.f0, f.f1, f.f2]

/-- The flags of absent data bytes forced to 0 (40_codec.md R104). -/
def maskFlags (f : CtlFields) : CtlFields :=
  { f with f0 := f.f0 && decide (0 < f.n.toNat), f1 := f.f1 && decide (1 < f.n.toNat),
           f2 := f.f2 && decide (2 < f.n.toNat) }

/-- `CTLPACK` (40_codec.md R104, 30_encoding.md R74): bit 5 is 0 and absent data bytes have no flag. -/
def ctlPack (f : CtlFields) : Byte := ctlLayout false (maskFlags f)

/-- `CTLUNPACK` (40_codec.md R105, 30_encoding.md R73): bit 5 is dropped unchecked. -/
def ctlUnpack (c : Byte) : CtlFields := ctlFieldsOf c

end Sys2Proof.Machine
end

