-- ==== Sys2Proof/Machine/Codec.lean ====
section
/-! DEFINITION. The frame codec: checksum, encode, validate, decode (40_codec.md R106 to R111). Each takes the parameters
of 00_scope.md R8 as arguments, and has a short name at this hardware's values. -/

namespace Sys2Proof.Machine

/-- `CRCGEN` (40_codec.md R106): complement of the XOR of control, address and data bytes, one more when that is a
delimiter. -/
def crcGen (c aw : Byte) (dw : List Byte) : Byte :=
  let k := ~~~ (dw.foldl (· ^^^ ·) (c ^^^ aw))
  if isDelim k then k + 1 else k

/-- The checksum of a frame: over the wire values, or under `LOGICAL` over the logical ones (40_codec.md R106). -/
def frameChecksum (d : CrcDomain) (c aw : Byte) (dw : List Byte) (addr : Byte) (data : List Byte) : Byte :=
  match d with
  | .wire => crcGen c aw dw
  | .logical => crcGen c addr data

/-- The two header bytes in wire order (20_memory.md R53, 30_encoding.md R70). -/
def header (o : HdrOrder) (aw c : Byte) : List Byte :=
  match o with
  | .addrFirst => [aw, c]
  | .ctrlFirst => [c, aw]

/-- The control byte `ENCODE` makes (40_codec.md R108). -/
def frameControl (dir : Bool) (addr : Byte) (data : List Byte) : Byte :=
  let f := data.map fun v => (escape v).2
  ctlPack { dir := dir, fa := (escape addr).2, f0 := f.getD 0 false, f1 := f.getD 1 false, f2 := f.getD 2 false,
            n := BitVec.ofNat 2 data.length }

/-- The checksum byte `ENCODE` makes (40_codec.md R108). -/
def frameCrcAs (d : CrcDomain) (dir : Bool) (addr : Byte) (data : List Byte) : Byte :=
  frameChecksum d (frameControl dir addr data) (escape addr).1 (data.map fun v => (escape v).1) addr data

/-- `ENCODE` (40_codec.md R108). -/
def encodeFrameAs (o : HdrOrder) (d : CrcDomain) (dir : Bool) (addr : Byte) (data : List Byte) : List Byte :=
  [Config.START] ++ header o (escape addr).1 (frameControl dir addr data) ++ (data.map fun v => (escape v).1) ++
    [frameCrcAs d dir addr data, Config.STOP]

/-- `VALIDATE` (40_codec.md R110): of `dw` only the first `c[1:0]` bytes are read. -/
def validateAs (d : CrcDomain) (c aw : Byte) (dw : Bytes3) (k : Byte) : Verdict :=
  let u := ctlUnpack c
  let w := dw.first u.n
  let addr := unescape aw u.fa
  let data := unescapeAll w (dataFlags u)
  if frameChecksum d c aw w addr data = k then
    .frame { dir := u.dir, addr := addr, data := data, ctrl := c, crc := k }
  else .failed .checksum

/-- `s[i]` of a byte list; the places read by `decodeFrameAs` are inside the list. -/
def byteOf (s : List Byte) (i : Nat) : Byte := s.getD i 0

/-- `DECODE` (40_codec.md R111): the framing test first, then `VALIDATE`. -/
def decodeFrameAs (o : HdrOrder) (d : CrcDomain) (s : List Byte) : Verdict :=
  if s.length < Config.MIN_FRAME ∨ byteOf s 0 ≠ Config.START then .failed .framing
  else
    let c := match o with
      | .addrFirst => byteOf s 2
      | .ctrlFirst => byteOf s 1
    let aw := match o with
      | .addrFirst => byteOf s 1
      | .ctrlFirst => byteOf s 2
    let n := (ctlCount c).toNat
    if s.length ≠ Config.MIN_FRAME + n ∨ byteOf s (s.length - 1) ≠ Config.STOP then .failed .framing
    else validateAs d c aw ⟨byteOf s 3, byteOf s 4, byteOf s 5⟩ (byteOf s (3 + n))

/-- `ENCODE` of this hardware (40_codec.md R108). -/
def encodeFrame (dir : Bool) (addr : Byte) (data : List Byte) : List Byte :=
  encodeFrameAs Config.hdrOrder Config.crcDomain dir addr data

/-- `VALIDATE` of this hardware (40_codec.md R110). -/
def validateFrame (c aw : Byte) (dw : Bytes3) (k : Byte) : Verdict := validateAs Config.crcDomain c aw dw k

/-- `DECODE` of this hardware (40_codec.md R111). -/
def decodeFrame (s : List Byte) : Verdict := decodeFrameAs Config.hdrOrder Config.crcDomain s

end Sys2Proof.Machine
end

