-- ==== Sys2Proof/Machine/Flags.lean ====
section
/-! DEFINITION. The status the host sees: `frame_ready`, `rx_error`, `rx_cause`, `tx_busy` (10_state.md R29 to R31, R35,
R37). -/

namespace Sys2Proof.Machine

/-- The flag half of a discard (60_exceptions.md R216): the latest cause wins. -/
def State.flagDiscard (c : Cause) (s : State) : State := { s with rxError := true, rxCause := c }

/-- The error status cleared (43_host_and_environment.md R177). -/
def State.clearError (s : State) : State := { s with rxError := false, rxCause := .none }

/-- `frame_ready` cleared (43_host_and_environment.md R176). -/
def State.clearReady (s : State) : State := { s with frameReady := false }

/-- The optional packing `STATUS = {0b000, tx_busy, rx_cause[1:0], rx_error, frame_ready}` (10_state.md R37). -/
def State.statusWord (s : State) : Byte :=
  0#3 ++ BitVec.ofBool s.txBusy ++ s.rxCause.code ++ BitVec.ofBool s.rxError ++ BitVec.ofBool s.frameReady

end Sys2Proof.Machine
end

