-- ==== Sys2Proof/Machine/Ops.lean ====
section
/-! DEFINITION. The shared operations over the registers: answers, the discard sequence (the block's one exception,
60_exceptions.md R216), capture, publication, transmission and reset. -/

namespace Sys2Proof.Machine

/-! ### Answers -/

/-- The step answers `a`. -/
def State.answering (a : Answer) (s : State) : State := { s with answer := a }

/-- `refuse` (00_scope.md R13): nothing of the block changes and there is no output; the model notes why
(assumption 1). -/
def State.refuse (r : Unaccepted) (s : State) : State := s.answering (.refuses r)

/-- A combinational function's value: no register is read or written (40_codec.md R100; assumption 6). -/
def State.compute (v : CodecValue) (s : State) : State := s.answering (.computes v)

/-- `rx_state <- st` with no output. -/
def State.goTo (st : RxState) (s : State) : State := { s with rxState := st, answer := .silent }

/-! ### Taking the exception: the discard sequence -/

/-- `raise` (60_exceptions.md R216): back to `WAIT_START`, error flag and cause set, `Discarded(cause)` emitted; nothing
is saved and nothing else changes. There is no return from it (R217). -/
def State.raise (c : Cause) (s : State) : State :=
  { s.flagDiscard c with rxState := .waitStart, answer := .emits (.discarded c) }

/-! ### Capture -/

/-- The state after the header: data bytes when the control byte announces some (41_receiver.md R131, R135). -/
def afterHeader (c : Byte) : RxState := if 0 < (ctlCount c).toNat then .readData else .readCrc

/-- The state RX.START enters (41_receiver.md R133). -/
def firstHeaderState (o : HdrOrder) : RxState :=
  match o with
  | .addrFirst => .readAddress
  | .ctrlFirst => .readControl

/-- The address byte stored as received (41_receiver.md R134). -/
def State.captureAddress (o : HdrOrder) (b : Byte) (s : State) : State :=
  match o with
  | .addrFirst => { s with rxAddr := b, rxState := .readControl, answer := .silent }
  | .ctrlFirst => { s with rxAddr := b, rxIdx := 0, rxState := afterHeader s.rxCtrl, answer := .silent }

/-- The control byte stored as received (41_receiver.md R135). -/
def State.captureControl (o : HdrOrder) (b : Byte) (s : State) : State :=
  match o with
  | .addrFirst => { s with rxCtrl := b, rxIdx := 0, rxState := afterHeader b, answer := .silent }
  | .ctrlFirst => { s with rxCtrl := b, rxState := .readAddress, answer := .silent }

/-- Another data byte is to come after the one at `rx_idx` (41_receiver.md R136). -/
def State.moreData (s : State) : Bool := decide (s.rxIdx.toNat + 1 < (ctlCount s.rxCtrl).toNat)

/-- `rx_data` already written, the receiver moves on (41_receiver.md R136). -/
def State.advanceData (s : State) : State :=
  if s.moreData then { s with rxIdx := s.rxIdx + 1, answer := .silent } else s.goTo .readCrc

/-- The data byte stored as received at `rx_idx`, if `rx_data` has such an element (41_receiver.md R136). -/
def State.captureData (b : Byte) (s : State) : Option State :=
  match s.rxData.set s.rxIdx.toNat b with
  | some d => some { s with rxData := d }.advanceData
  | none => none

/-- The checksum byte stored as received (41_receiver.md R137). -/
def State.captureChecksum (b : Byte) (s : State) : State :=
  { s with rxCrc := b, rxState := .expectStop, answer := .silent }

/-! ### Publication -/

/-- What `VALIDATE` says of the accumulated fields (41_receiver.md R138). -/
def State.validated (s : State) : Verdict := validateFrame s.rxCtrl s.rxAddr s.rxData s.rxCrc

/-- All published-frame registers and `frame_ready` written in one step (41_receiver.md R138, 20_memory.md R56).
`out_data[i]` for `i >= out_n` is unspecified (10_state.md R28): a free byte (assumption 2). -/
def State.publish (f : Frame) (s : State) : State :=
  { s with
    outDir := f.dir
    outAddr := f.addr
    outN := ctlCount s.rxCtrl
    outData := Bytes3.ofList f.data s.freeCount
    outCtrl := s.rxCtrl
    outCrc := s.rxCrc
    frameReady := true
    rxState := .waitStart
    answer := .emits (.published f)
    freeCount := s.freeCount + 3 }

/-- The candidate frame closed: published, or discarded on a checksum failure (41_receiver.md R138). -/
def State.closeFrame (s : State) : State :=
  match s.validated with
  | .frame f => s.publish f
  | .failed _ => s.raise .checksum

/-- The frame that HOST.READ returns: exactly `out_n` data bytes (43_host_and_environment.md R178). -/
def State.publishedFrame (s : State) : Frame :=
  { dir := s.outDir, addr := s.outAddr, data := s.outData.first s.outN, ctrl := s.outCtrl, crc := s.outCrc }

/-! ### Transmission -/

/-- A frame's wire bytes loaded (42_transmitter.md R161). `tx_buf` past them is unspecified: free bytes
(assumption 2). -/
def State.loadTx (wire : List Byte) (s : State) : State :=
  { s with
    txBuf := Bytes8.ofList wire s.freeCount
    txLen := BitVec.ofNat 4 wire.length
    txPos := 0
    txBusy := true
    answer := .silent
    freeCount := s.freeCount + 8 }

/-- `b = tx_buf[tx_pos]` emitted (42_transmitter.md R162). -/
def State.emitTx (b : Byte) (s : State) : State :=
  { s with
    txPos := s.txPos + 1
    txBusy := s.txPos + 1 != s.txLen
    answer := .emits (.txByte b) }

/-! ### Reset -/

/-- RESET (70_reset_and_hazards.md R240): silent; the registers it leaves unspecified are free values (assumption 2).
The environment's outstanding events and a byte on the line are not the block's and stay. -/
def State.resetBlock (s : State) : State :=
  let g := fun i => Config.freeByte (s.freeCount + i)
  { s with
    rxState := .waitStart
    rxIdx := 0
    rxAddr := g 0
    rxCtrl := g 1
    rxData := ⟨g 2, g 3, g 4⟩
    rxCrc := g 5
    outDir := (g 6).getLsbD 0
    outAddr := g 7
    outN := (g 8).extractLsb' 0 2
    outData := ⟨g 9, g 10, g 11⟩
    outCtrl := g 12
    outCrc := g 13
    frameReady := false
    rxError := false
    rxCause := .none
    txBuf := ⟨g 14, g 15, g 16, g 17, g 18, g 19, g 20, g 21⟩
    txLen := 0
    txPos := 0
    txBusy := false
    answer := .silent
    freeCount := s.freeCount + 22 }

end Sys2Proof.Machine
end

