-- ==== Sys2Proof/Machine/Functions.lean ====
section
/-! DEFINITION. The table's byte formats and combinational functions (30_encoding.md R72, R78, 40_codec.md R101 to R111).
None reads or writes a register (40_codec.md R100); the value each defines is the model's answer (assumption 6). -/

namespace Sys2Proof.Machine

/-- START (R78): the constant. -/
def execStartByte (s : State) : Host.Outcome State Fault Refusal := .next (s.compute (.byte Config.START))

/-- STOP (R78): the constant. -/
def execStopByte (s : State) : Host.Outcome State Fault Refusal := .next (s.compute (.byte Config.STOP))

/-- CTRLBYTE (R72): the byte with these fields. -/
def execCtrlByte (rsv : Bool) (f : CtlFields) (s : State) : Host.Outcome State Fault Refusal :=
  .next (s.compute (.byte (ctlLayout rsv f)))

/-- ISDELIM (R101). -/
def execIsdelim (b : Byte) (s : State) : Host.Outcome State Fault Refusal := .next (s.compute (.bit (isDelim b)))

/-- ESC (R102). -/
def execEsc (v : Byte) (s : State) : Host.Outcome State Fault Refusal :=
  .next (s.compute (.escaped (escape v).1 (escape v).2))

/-- UNESC (R103). -/
def execUnesc (w : Byte) (f : Bool) (s : State) : Host.Outcome State Fault Refusal :=
  .next (s.compute (.byte (unescape w f)))

/-- CTLPACK (R104). -/
def execCtlpack (f : CtlFields) (s : State) : Host.Outcome State Fault Refusal := .next (s.compute (.byte (ctlPack f)))

/-- CTLUNPACK (R105). -/
def execCtlunpack (c : Byte) (s : State) : Host.Outcome State Fault Refusal :=
  .next (s.compute (.fields (ctlUnpack c)))

/-- CRCGEN (R106). -/
def execCrcgen (c aw : Byte) (dw : Payload) (s : State) : Host.Outcome State Fault Refusal :=
  .next (s.compute (.byte (crcGen c aw (payloadBytes dw))))

/-- ENCODE (R108). -/
def execEncode (dir : Bool) (addr : Byte) (data : Payload) (s : State) : Host.Outcome State Fault Refusal :=
  .next (s.compute (.bytes (encodeFrame dir addr (payloadBytes data))))

/-- VALIDATE (R110). -/
def execValidate (c aw d0 d1 d2 k : Byte) (s : State) : Host.Outcome State Fault Refusal :=
  .next (s.compute (.verdict (validateFrame c aw ⟨d0, d1, d2⟩ k)))

/-- DECODE (R111). -/
def execDecode (l : List Byte) (s : State) : Host.Outcome State Fault Refusal :=
  .next (s.compute (.verdict (decodeFrame l)))

end Sys2Proof.Machine
end

