-- ==== Sys2Proof/Machine/HostPort.lean ====
section
/-! DEFINITION. The host's operations (43_host_and_environment.md R176 to R178). -/

namespace Sys2Proof.Machine

/-- HOST.ACK (R176): accepted also when the flag is already 0. -/
def execHostAck (s : State) : Host.Outcome State Fault Refusal := .next (s.clearReady.answering .silent)

/-- HOST.CLRERR (R177). -/
def execHostClrerr (s : State) : Host.Outcome State Fault Refusal := .next (s.clearError.answering .silent)

/-- HOST.READ (R178): no side effect; not accepted while `frame_ready = 0`. -/
def execHostRead (s : State) : Host.Outcome State Fault Refusal :=
  if s.frameReady then .next (s.answering (.emits (.readResult s.publishedFrame))) else .next (s.refuse .noFrame)

end Sys2Proof.Machine
end

