-- ==== Sys2Proof/Machine/Receiver.lean ====
section
/-! DEFINITION. The receiver's operations (41_receiver.md R132 to R141). Which of them a byte selects is the decoder's
part (30_encoding.md R82); each meaning here is the rule's pseudocode. -/

namespace Sys2Proof.Machine

/-- RX.START (R133). -/
def execRxStart (s : State) : Host.Outcome State Fault Refusal := .next (s.goTo (firstHeaderState Config.hdrOrder))

/-- RX.SKIP (R132): nothing is written, no flag is set. -/
def execRxSkip (_b : Byte) (s : State) : Host.Outcome State Fault Refusal := .next (s.answering .silent)

/-- RX.ADDR (R134). -/
def execRxAddr (b : Byte) (s : State) : Host.Outcome State Fault Refusal := .next (s.captureAddress Config.hdrOrder b)

/-- RX.CTRL (R135): every byte value is accepted. -/
def execRxCtrl (b : Byte) (s : State) : Host.Outcome State Fault Refusal := .next (s.captureControl Config.hdrOrder b)

/-- RX.DATA (R136). With `rx_idx = 3`, which no reachable state has (10_state.md R41), there is no `rx_data[3]`. -/
def execRxData (b : Byte) (s : State) : Host.Outcome State Fault Refusal :=
  match s.captureData b with
  | some t => .next t
  | none => .fault .rxDataIndex

/-- RX.CRC (R137). -/
def execRxCrc (b : Byte) (s : State) : Host.Outcome State Fault Refusal := .next (s.captureChecksum b)

/-- RX.STOP (R138). -/
def execRxStop (s : State) : Host.Outcome State Fault Refusal := .next s.closeFrame

/-- RX.BADSTOP (R139): the byte is consumed, even `0x96`. -/
def execRxBadstop (_b : Byte) (s : State) : Host.Outcome State Fault Refusal := .next (s.raise .framingStop)

/-- RX.LINE_ERR (R141). -/
def execRxLineErr (s : State) : Host.Outcome State Fault Refusal := .next (s.raise .framingLine)

end Sys2Proof.Machine
end

