-- ==== Sys2Proof/Machine/System.lean ====
section
/-! DEFINITION. RESET and the reserved event kinds (70_reset_and_hazards.md R240, 30_encoding.md R84). -/

namespace Sys2Proof.Machine

/-- RESET (R240): never refused. -/
def execReset (s : State) : Host.Outcome State Fault Refusal := .next s.resetBlock

/-- Event kind 7 (R84): no state change, no output. -/
def execEvReserved7 (s : State) : Host.Outcome State Fault Refusal := .next (s.refuse .reservedKind)

/-- Event kinds 8 to 0xB (R84): no state change, no output. -/
def execEvReserved8B (_k : BitVec 2) (s : State) : Host.Outcome State Fault Refusal := .next (s.refuse .reservedKind)

/-- Event kinds 0xC and 0xD (R84): no state change, no output. -/
def execEvReservedCD (_k : BitVec 1) (s : State) : Host.Outcome State Fault Refusal := .next (s.refuse .reservedKind)

/-- Event kind 0xE (R84): no state change, no output. -/
def execEvReservedE (s : State) : Host.Outcome State Fault Refusal := .next (s.refuse .reservedKind)

end Sys2Proof.Machine
end

