-- ==== Sys2Proof/Machine/Transmitter.lean ====
section
/-! DEFINITION. The transmit sequencer (42_transmitter.md R161, R162). -/

namespace Sys2Proof.Machine

/-- TX.LOAD (R161). -/
def execTxLoad (dir : Bool) (addr : Byte) (p : Payload) (s : State) : Host.Outcome State Fault Refusal :=
  if s.txBusy then .next (s.refuse .txBusy) else .next (s.loadTx (encodeFrame dir addr (payloadBytes p)))

/-- TX.NEXT (R162). With `tx_busy = 0` the event is accepted and does nothing. With `tx_busy = 1` and `tx_pos > 7`,
which no reachable state has (10_state.md R43), there is no `tx_buf[tx_pos]`. -/
def execTxNext (s : State) : Host.Outcome State Fault Refusal :=
  if s.txBusy then
    match s.txBuf.get s.txPos.toNat with
    | some b => .next (s.emitTx b)
    | none => .fault .txBufIndex
  else .next (s.answering .silent)

end Sys2Proof.Machine
end

