-- ==== Sys2Proof/Machine/Dispatch.lean ====
section
/-! DEFINITION. One arm per row of spec/opcode_table.json (30_encoding.md R82, R83). -/

namespace Sys2Proof.Machine

def exec (i : Instr) (s : State) : Host.Outcome State Fault Refusal :=
  match i with
  | .rxStart => Sys2Proof.Machine.execRxStart s
  | .rxSkip b => Sys2Proof.Machine.execRxSkip b s
  | .rxAddr b => Sys2Proof.Machine.execRxAddr b s
  | .rxCtrl b => Sys2Proof.Machine.execRxCtrl b s
  | .rxData b => Sys2Proof.Machine.execRxData b s
  | .rxCrc b => Sys2Proof.Machine.execRxCrc b s
  | .rxStop => Sys2Proof.Machine.execRxStop s
  | .rxBadstop b => Sys2Proof.Machine.execRxBadstop b s
  | .rxLineErr => Sys2Proof.Machine.execRxLineErr s
  | .hostAck => Sys2Proof.Machine.execHostAck s
  | .hostClrerr => Sys2Proof.Machine.execHostClrerr s
  | .hostRead => Sys2Proof.Machine.execHostRead s
  | .txLoad dir addr p => Sys2Proof.Machine.execTxLoad dir addr p s
  | .txNext => Sys2Proof.Machine.execTxNext s
  | .evReserved7 => Sys2Proof.Machine.execEvReserved7 s
  | .evReserved8B k => Sys2Proof.Machine.execEvReserved8B k s
  | .evReservedCD k => Sys2Proof.Machine.execEvReservedCD k s
  | .evReservedE => Sys2Proof.Machine.execEvReservedE s
  | .reset => Sys2Proof.Machine.execReset s
  | .startByte => Sys2Proof.Machine.execStartByte s
  | .stopByte => Sys2Proof.Machine.execStopByte s
  | .ctrlByte rsv f => Sys2Proof.Machine.execCtrlByte rsv f s
  | .isdelim b => Sys2Proof.Machine.execIsdelim b s
  | .esc v => Sys2Proof.Machine.execEsc v s
  | .unesc w f => Sys2Proof.Machine.execUnesc w f s
  | .ctlpack f => Sys2Proof.Machine.execCtlpack f s
  | .ctlunpack c => Sys2Proof.Machine.execCtlunpack c s
  | .crcgen c aw dw => Sys2Proof.Machine.execCrcgen c aw dw s
  | .encode dir addr data => Sys2Proof.Machine.execEncode dir addr data s
  | .validate c aw d0 d1 d2 k => Sys2Proof.Machine.execValidate c aw d0 d1 d2 k s
  | .decode l => Sys2Proof.Machine.execDecode l s

end Sys2Proof.Machine
end

