-- ==== Sys2Proof/Machine/Fetch.lean ====
section
/-! DEFINITION. Which item the next step takes (20_memory.md R59 to R62), and the line's loopback
(92_eei_decisions.md D22; assumptions 4 and 9). -/

namespace Sys2Proof.Machine

/-- The item would make the transmitter emit a byte (42_transmitter.md R162). -/
def State.wouldEmit (s : State) : Input → Bool
  | .event ev _ => s.txBusy && evKind ev == 0x6
  | .byte8 _ => false
  | .call _ => false

/-- The next item and the state without it. An emitted byte not yet heard comes, at the latest, when nothing else is
outstanding or when the next byte would be emitted; before that, a free choice decides. -/
def State.fetch (s : State) : Option (Input × State) :=
  match s.echo, s.input with
  | none, [] => none
  | none, x :: rest => some (x, { s with input := rest })
  | some b, [] => some (rxByteInput b, { s with echo := none })
  | some b, x :: rest =>
    if s.wouldEmit x || Config.echoFirst s.freeCount then
      some (rxByteInput b, { s with echo := none, freeCount := s.freeCount + 1 })
    else some (x, { s with input := rest, freeCount := s.freeCount + 1 })

/-- With `LOOPBACK`, the byte just emitted waits to be heard by the same block's receiver (D22). -/
def State.hearOwn (s : State) : State :=
  match s.answer with
  | .emits (.txByte b) => if Config.loopback then { s with echo := some b } else s
  | .emits (.published _) | .emits (.discarded _) | .emits (.readResult _) => s
  | .silent | .refuses _ | .computes _ => s

end Sys2Proof.Machine
end

