-- ==== Sys2Proof/Machine/Deliver.lean ====
section
/-! DEFINITION. One item decoded in the present `rx_state` and executed (00_scope.md R14, 30_encoding.md R82). -/

namespace Sys2Proof.Machine

/-- The operation the item selects, executed. -/
def deliver (x : Input) (s : State) : Host.Outcome State Fault Refusal :=
  match decode s.rxState x with
  | .ok i => exec i s
  | .error e => .refused (.undecodable e)

/-- An item executed, and heard on the line where it emitted a byte. -/
def takeItem (x : Input) (s : State) : Host.Outcome State Fault Refusal :=
  match deliver x s with
  | .next t => .next t.hearOwn
  | .fault r => .fault r
  | .refused r => .refused r

/-- With nothing outstanding the block holds its state for any length of time (41_receiver.md R142). -/
def idle (s : State) : Host.Outcome State Fault Refusal := .next (s.answering .silent)

/-- The item a table word stands for put where the next step takes its item (assumption 7). -/
def placeWord (s : State) (nbits w : Nat) : State :=
  match tableInput nbits w with
  | some x => { s with rxState := tableState s.rxState x, input := x :: s.input, echo := none }
  | none => s

end Sys2Proof.Machine
end

