-- ==== Sys2Proof/Machine/Step.lean ====
section
/-! DEFINITION. One step of the machine: the atomic processing of one item (00_scope.md R14), in the one total order of
20_memory.md R59. -/

namespace Sys2Proof.Machine

/-- One step: take the next item and process it; with none outstanding, nothing changes. -/
def step (s : State) : Host.Outcome State Fault Refusal :=
  match s.fetch with
  | some (x, t) => takeItem x t
  | none => idle s

/-- The state whose next step runs the instruction of a table word (assumption 7): the word is put at the head of the
outstanding items, no echo is pending, and `rx_state`, which is half of a received byte's opcode
(30_encoding.md R82), is the one the table's row names. -/
def State.withFetchWord (s : State) (nbits w : Nat) : State := placeWord s nbits w

end Sys2Proof.Machine
end

