-- ==== Sys2Proof/Machine/Environment.lean ====
section
/-! DEFINITION. The contracts of the block's environment, outside the block (00_scope.md R5, 43_host_and_environment.md
R179, R185 to R193): Address Filter, node address, Command Dispatcher, reply framing. No definition of the machine uses
this file (assumption 10). -/

namespace Sys2Proof.Machine

/-- The node's configured address and the byte in its persistent storage (R186). -/
structure Node where
  address : Byte
  stored : Byte
deriving DecidableEq, Repr

/-- A request's command (R188). -/
inductive Command where
  | assignAddress (a : Byte)
  | readEncoder
  | unsupported (code : Byte)
  /-- No code, or code 1 without its operand: the source says nothing (93_implementation_defined.md U19). -/
  | unspecified
deriving DecidableEq, Repr

/-- What the host does about a published frame. -/
inductive Reaction where
  /-- Another node's traffic: acknowledged and dropped (R185). -/
  | ignore
  | reply (data : List Byte)
  /-- The reply, then a restart that arms the stored address (R189). -/
  | replyThenRestart (data : List Byte) (stored : Byte)
  /-- The transducer never answers: no further event (93_implementation_defined.md U20). -/
  | hang
  /-- Nothing may be assumed (U19). -/
  | unspecified
deriving DecidableEq, Repr

/-- The node at start-up: `0xFF` in storage means not configured (R186). -/
def nodeStart (stored : Byte) : Node :=
  { address := if stored = 0xFF#8 then Config.nodeAddrFallback else stored, stored := stored }

/-- The Address Filter: equality of all 8 bits of the logical address (R185). -/
def addressMatches (node : Node) (f : Frame) : Bool := f.addr == node.address

/-- The command of a frame's data bytes: the code is `data[0]` (R188 to R191). The rules give the requests `[0x01, a]`
and `[0x02]` and are silent on longer ones; DESIGN CHOICE (assumption 17): surplus bytes are ignored. -/
def commandOf : List Byte → Command
  | [] => .unspecified
  | [c] => if c = 1#8 then .unspecified else if c = 2#8 then .readEncoder else .unsupported c
  | c :: a :: _ => if c = 1#8 then .assignAddress a else if c = 2#8 then .readEncoder else .unsupported c

/-- The host's reaction; `raw` is what the Encoder Transducer gives, if it ever returns (R193). -/
def react (node : Node) (raw : Option Bytes3) (f : Frame) : Reaction :=
  if addressMatches node f then
    match commandOf f.data with
    | .assignAddress a => .replyThenRestart [a] a
    | .readEncoder =>
      match raw with
      | some r => .reply r.toList
      | none => .hang
    | .unsupported _ => .reply [0x45#8]
    | .unspecified => .unspecified
  else .ignore

/-- A list of at most three bytes as a payload; the bytes past its end are not read. -/
def payloadOf (data : List Byte) : Payload :=
  { n := BitVec.ofNat 2 data.length, d0 := data.getD 0 0, d1 := data.getD 1 0, d2 := data.getD 2 0 }

/-- A reply on the line: `TxLoad(dir = 0, addr = REPLY_ADDR, ..)` and its bytes drained (R192, 30_encoding.md R85);
`k` numbers the reply. -/
def replyInputs (k : Nat) (data : List Byte) : List Input :=
  Sys2Proof.encode (.txLoad false (Config.replyAddr k) (payloadOf data)) ::
    List.replicate (Config.MIN_FRAME + data.length) (Sys2Proof.encode .txNext)

/-- The events that follow a publication, in the order of 95_test_vectors.md P9: read, act, acknowledge, reply, and the
restart only after the reply is out (R179, R251). Nothing is said of an unspecified reaction. -/
def reactionInputs (k : Nat) : Reaction → Option (List Input)
  | .ignore => some [Sys2Proof.encode .hostRead, Sys2Proof.encode .hostAck]
  | .reply data => some (Sys2Proof.encode .hostRead :: Sys2Proof.encode .hostAck :: replyInputs k data)
  | .replyThenRestart data _ =>
    some (Sys2Proof.encode .hostRead :: Sys2Proof.encode .hostAck :: (replyInputs k data ++ [Sys2Proof.encode .reset]))
  | .hang => some [Sys2Proof.encode .hostRead]
  | .unspecified => none

/-- The node afterwards: a new address holds only from the restart on (R189, R251). After a request that the spec leaves
open (no code, or code 1 without its operand) nothing is said of the node (93_implementation_defined.md U19;
assumption 17: DESIGN CHOICE of form), so there is no value. -/
def nodeAfter (node : Node) : Reaction → Option Node
  | .replyThenRestart _ stored => some (nodeStart stored)
  | .ignore | .reply _ | .hang => some node
  | .unspecified => none

end Sys2Proof.Machine
end

