-- ==== Sys2Proof/Safety.lean ====
section
/-! DEFINITION. The terms in which claims about RAR-FE are stated: who performs an operation, the launch state, the
invariant, byte streams, and what an observer can see. -/

namespace Sys2Proof.Machine

/-- Who performs an operation (20_memory.md R59, 60_exceptions.md R225). -/
inductive Context where
  | receive
  | host
  | transmit
  | environment
  /-- A reserved event kind, a byte format or a combinational function: no operation on the registers. -/
  | outside
deriving DecidableEq, Repr

/-- The context of an operation is fixed by its event (60_exceptions.md R225). -/
def contextOf : Instr → Context
  | .rxStart | .rxSkip _ | .rxAddr _ | .rxCtrl _ | .rxData _ | .rxCrc _ | .rxStop | .rxBadstop _ | .rxLineErr => .receive
  | .hostAck | .hostClrerr | .hostRead | .txLoad _ _ _ => .host
  | .txNext => .transmit
  | .reset => .environment
  | .evReserved7 | .evReserved8B _ | .evReservedCD _ | .evReservedE | .startByte | .stopByte | .ctrlByte _ _
  | .isdelim _ | .esc _ | .unesc _ _ | .ctlpack _ | .ctlunpack _ | .crcgen _ _ _ | .encode _ _ _
  | .validate _ _ _ _ _ _ | .decode _ => .outside

/-- A launch state (70_reset_and_hazards.md R243): the registers that reset specifies hold their values and no event is
pending; the others are unconstrained. -/
structure Launch (s : State) : Prop where
  rxState : s.rxState = .waitStart
  rxIdx : s.rxIdx = 0
  frameReady : s.frameReady = false
  rxError : s.rxError = false
  rxCause : s.rxCause = .none
  txLen : s.txLen = 0
  txPos : s.txPos = 0
  txBusy : s.txBusy = false
  input : s.input = []
  echo : s.echo = none

/-- The first `n` elements of an eight-byte array. -/
def Bytes8.first (x : Bytes8) (n : BitVec 4) : List Byte := x.toList.take n.toNat

/-- What holds in every reachable state. -/
structure BlockInv (s : State) : Prop where
  /-- 10_state.md R41. -/
  idxBelowCount : s.rxState = .readData → s.rxIdx.toNat < (ctlCount s.rxCtrl).toNat
  /-- 10_state.md R30, R31: the cause is `NONE` exactly while no discard is recorded. -/
  causeNoneIffNoError : s.rxCause = .none ↔ s.rxError = false
  /-- 10_state.md R43. -/
  busyInRange : s.txBusy = true → 5 ≤ s.txLen.toNat ∧ s.txLen.toNat ≤ 8 ∧ s.txPos.toNat < s.txLen.toNat
  /-- 10_state.md R43. -/
  idleAtEnd : s.txBusy = false → s.txPos = s.txLen
  /-- 42_transmitter.md R164: a loaded frame is canonical. -/
  loadedIsCanonical : s.txLen ≠ 0 →
    ∃ dir addr data, data.length ≤ 3 ∧ s.txBuf.first s.txLen = encodeFrame dir addr data
  /-- 41_receiver.md R144: a published frame has passed `VALIDATE`. -/
  publishedIsValid : s.frameReady = true →
    ∃ aw dw, validateFrame s.outCtrl aw dw s.outCrc = .frame s.publishedFrame

/-- The 60 control bytes a transmitter can produce, by the halves that 30_encoding.md R75 lists. -/
def canonicalControls : List Byte :=
  [0x00#8, 0x40#8, 0x80#8, 0xC0#8].flatMap fun hi =>
    [0x00#8, 0x01#8, 0x05#8, 0x02#8, 0x06#8, 0x0A#8, 0x0E#8, 0x03#8, 0x07#8, 0x0B#8, 0x0F#8, 0x13#8, 0x17#8, 0x1B#8,
      0x1F#8].map fun lo => hi ||| lo

/-- A delimiter made one more, any other byte unchanged (40_codec.md R106). -/
def pastDelimiters (k : Byte) : Byte := if k = 0x96#8 then 0x97#8 else if k = 0xA9#8 then 0xAA#8 else k

/-- `RxByte` events delivered one after another, nothing between them. -/
def feed : List Byte → State → Host.Outcome State Fault Refusal
  | [], s => .next s
  | b :: bs, s =>
    match deliver (rxByteInput b) s with
    | .next t => feed bs t
    | .fault r => .fault r
    | .refused r => .refused r

/-- The answers of the same steps, in order. -/
def feedAnswers : List Byte → State → List Answer
  | [], _ => []
  | b :: bs, s =>
    match deliver (rxByteInput b) s with
    | .next t => t.answer :: feedAnswers bs t
    | .fault _ => []
    | .refused _ => []

/-- `n` `TxNext` events delivered one after another: their answers in order, and the state they leave
(30_encoding.md R85, `txdrain`). -/
def drain : Nat → State → Option (List Answer × State)
  | 0, s => some ([], s)
  | n + 1, s =>
    match exec .txNext s with
    | .next t =>
      match drain n t with
      | some (as, u) => some (t.answer :: as, u)
      | none => none
    | .fault _ => none
    | .refused _ => none

/-- The state hands a frame to the host in this answer. -/
def Answer.publishes : Answer → Bool
  | .emits (.published _) => true
  | .emits (.discarded _) | .emits (.txByte _) | .emits (.readResult _) => false
  | .silent | .refuses _ | .computes _ => false

/-- The accumulation registers that a candidate frame has already written agree (10_state.md R42). -/
def SameCandidate (s t : State) : Prop :=
  match s.rxState with
  | .waitStart | .readAddress => True
  | .readControl => s.rxAddr = t.rxAddr
  | .readData => s.rxAddr = t.rxAddr ∧ s.rxCtrl = t.rxCtrl ∧ s.rxIdx = t.rxIdx ∧
      s.rxData.first s.rxIdx = t.rxData.first s.rxIdx
  | .readCrc => s.rxAddr = t.rxAddr ∧ s.rxCtrl = t.rxCtrl ∧
      s.rxData.first (ctlCount s.rxCtrl) = t.rxData.first (ctlCount s.rxCtrl)
  | .expectStop => s.rxAddr = t.rxAddr ∧ s.rxCtrl = t.rxCtrl ∧ s.rxCrc = t.rxCrc ∧
      s.rxData.first (ctlCount s.rxCtrl) = t.rxData.first (ctlCount s.rxCtrl)

/-- Two states that differ at most in registers which hold no value of their own: unspecified after reset, left by an
earlier frame, or past a count (10_state.md R26, R28, R32, R42, R44). -/
structure SameView (s t : State) : Prop where
  rxState : s.rxState = t.rxState
  candidate : SameCandidate s t
  frameReady : s.frameReady = t.frameReady
  published : s.frameReady = true → s.publishedFrame = t.publishedFrame
  rxError : s.rxError = t.rxError
  rxCause : s.rxCause = t.rxCause
  txBusy : s.txBusy = t.txBusy
  txLen : s.txLen = t.txLen
  txPos : s.txPos = t.txPos
  txBuf : s.txBusy = true → s.txBuf.first s.txLen = t.txBuf.first s.txLen
  input : s.input = t.input
  echo : s.echo = t.echo
  freeCount : s.freeCount = t.freeCount

/-- Two outcomes that look the same: equal answers in states of the same view, or the same stop. -/
def SameOutcome : Host.Outcome State Fault Refusal → Host.Outcome State Fault Refusal → Prop
  | .next s, .next t => SameView s t ∧ s.answer = t.answer
  | .fault a, .fault b => a = b
  | .refused a, .refused b => a = b
  | _, _ => False

/-- The receiver's transition table for a received byte `b` (41_receiver.md R131): `n` is the data count after the
step's own write of `rx_ctrl`, `i` is `rx_idx` before the step. -/
def nextRxState (st : RxState) (b : Byte) (n i : Nat) : RxState :=
  match st with
  | .waitStart => if b = 0x96#8 then .readAddress else .waitStart
  | .readAddress => .readControl
  | .readControl => if 0 < n then .readData else .readCrc
  | .readData => if i + 1 < n then .readData else .readCrc
  | .readCrc => .expectStop
  | .expectStop => .waitStart

end Sys2Proof.Machine
end

