-- ==== Sys2Proof/Certificates/Slice0/Obligations.lean ====
section
/-! DEFINITION. The statements for the provers, in the order of OBLIGATIONS.json. -/

open Sys2Proof Sys2Proof.Machine

/-! ### The codec (40_codec.md) -/

/-- R101: `ISDELIM` holds of `0x96` and `0xA9` and of nothing else. -/
def Obligations.IsDelimHoldsOfTheTwoDelimiters : Prop :=
  ∀ b : Byte, isDelim b = true ↔ b = 0x96#8 ∨ b = 0xA9#8

/-- R102: `ESC` XORs a delimiter with 1 and flags it, leaves any other byte, and never yields a delimiter. -/
def Obligations.EscapeStuffsDelimitersOnly : Prop :=
  ∀ v : Byte,
    (v = 0x96#8 ∨ v = 0xA9#8 → escape v = (v ^^^ 0x01#8, true)) ∧
    (¬ (v = 0x96#8 ∨ v = 0xA9#8) → escape v = (v, false)) ∧
    isDelim (escape v).1 = false

/-- R103: `UNESC` XORs with 1 exactly when the flag is set, whatever the byte; it undoes `ESC`; `ESC` does not undo it. -/
def Obligations.UnescapeIsMechanicalAndUndoesEscape : Prop :=
  (∀ w : Byte, unescape w true = w ^^^ 0x01#8 ∧ unescape w false = w) ∧
  (∀ v : Byte, unescape (escape v).1 (escape v).2 = v) ∧
  escape (unescape 0x00#8 true) = (0x01#8, false)

/-- R104: `CTLPACK` bit by bit; bit 5 is 0, flags of absent data bytes are 0, the result is canonical (R75's 60 values). -/
def Obligations.ControlPackSetsEachBit : Prop :=
  ∀ f : CtlFields,
    (ctlPack f).getLsbD 7 = f.dir ∧ (ctlPack f).getLsbD 6 = f.fa ∧ (ctlPack f).getLsbD 5 = false ∧
    (ctlPack f).getLsbD 4 = (f.f2 && decide (2 < f.n.toNat)) ∧
    (ctlPack f).getLsbD 3 = (f.f1 && decide (1 < f.n.toNat)) ∧
    (ctlPack f).getLsbD 2 = (f.f0 && decide (0 < f.n.toNat)) ∧
    (ctlPack f).extractLsb' 0 2 = f.n ∧ ctlPack f ∈ canonicalControls

/-- R105: `CTLUNPACK` bit by bit, bit 5 dropped; it undoes `CTLPACK` on fields whose absent flags are 0, and `CTLPACK`
undoes it exactly on canonical bytes. -/
def Obligations.ControlUnpackReadsEachBit : Prop :=
  (∀ c : Byte, ctlUnpack c =
    { dir := c.getLsbD 7, fa := c.getLsbD 6, f0 := c.getLsbD 2, f1 := c.getLsbD 3, f2 := c.getLsbD 4,
      n := c.extractLsb' 0 2 }) ∧
  (∀ f : CtlFields, maskFlags f = f → ctlUnpack (ctlPack f) = f) ∧
  (∀ c : Byte, ctlPack (ctlUnpack c) = c ↔ c ∈ canonicalControls)

/-- R106: `CRCGEN` for 0 to 3 data bytes: the complement of the XOR, one more when it is a delimiter; the order of the
operands does not matter, and data registers past the count do not enter. -/
def Obligations.ChecksumIsComplementOfXor : Prop :=
  ∀ c aw d0 d1 d2 : Byte,
    crcGen c aw [] = pastDelimiters (~~~ (c ^^^ aw)) ∧
    crcGen c aw [d0] = pastDelimiters (~~~ (c ^^^ aw ^^^ d0)) ∧
    crcGen c aw [d0, d1] = pastDelimiters (~~~ (c ^^^ aw ^^^ d0 ^^^ d1)) ∧
    crcGen c aw [d0, d1, d2] = pastDelimiters (~~~ (c ^^^ aw ^^^ d0 ^^^ d1 ^^^ d2)) ∧
    (∀ dw dw' : List Byte, dw.Perm dw' → crcGen aw c dw' = crcGen c aw dw) ∧
    crcGen d0 aw [c] = crcGen c aw [d0] ∧
    ∀ (k : Byte) (w w' : Bytes3), w.first (c.extractLsb' 0 2) = w'.first (c.extractLsb' 0 2) →
      validateFrame c aw w k = validateFrame c aw w' k

/-- R107 (a), (b), (d): no checksum is a delimiter; two XORs share a checksum only in two pairs; the same change made to
two summed bytes goes unseen. -/
def Obligations.ChecksumCollisionsAreExactlyTwo : Prop :=
  (∀ (c aw : Byte) (dw : List Byte), crcGen c aw dw ≠ 0x96#8 ∧ crcGen c aw dw ≠ 0xA9#8) ∧
  (∀ x y : Byte, crcGen x 0 [] = crcGen y 0 [] ↔
    x = y ∨ (x = 0x69#8 ∧ y = 0x68#8) ∨ (x = 0x68#8 ∧ y = 0x69#8) ∨ (x = 0x56#8 ∧ y = 0x55#8) ∨
      (x = 0x55#8 ∧ y = 0x56#8)) ∧
  (∀ (c aw m : Byte) (dw : List Byte), crcGen (c ^^^ m) (aw ^^^ m) dw = crcGen c aw dw) ∧
  (∀ (c aw d m : Byte) (dw : List Byte), crcGen c (aw ^^^ m) ((d ^^^ m) :: dw) = crcGen c aw (d :: dw))

/-- R114: the low five bits of a control byte that `CTLPACK` makes are never those of `START` or `STOP`. -/
def Obligations.PackedControlIsDisjointFromDelimiters : Prop :=
  ∀ f : CtlFields,
    (ctlPack f).extractLsb' 0 5 ≠ (0x96#8).extractLsb' 0 5 ∧ (ctlPack f).extractLsb' 0 5 ≠ (0xA9#8).extractLsb' 0 5 ∧
    isDelim (ctlPack f) = false

/-- R70, R79, R109: an encoded frame has `5 + n` bytes, `START` first, `STOP` last, no delimiter between, the control
byte in third place and canonical. -/
def Obligations.EncodedFrameHasNoInnerDelimiter : Prop :=
  ∀ (dir : Bool) (addr : Byte) (data : List Byte), data.length ≤ 3 →
    ∃ inner : List Byte, encodeFrame dir addr data = [0x96#8] ++ inner ++ [0xA9#8] ∧
      inner.length = 3 + data.length ∧ (∀ b ∈ inner, b ≠ 0x96#8 ∧ b ≠ 0xA9#8) ∧
      ∃ c ∈ canonicalControls, inner[1]? = some c ∧ c.getLsbD 7 = dir ∧ (c.extractLsb' 0 2).toNat = data.length

/-- R113: escape correctness, over `ENCODE`'s output: at the address's and each data byte's place, a delimiter travels
with its low bit changed and its flag set in the control byte, any other byte unchanged with its flag clear. -/
def Obligations.EncodedFieldsAreEscapedAndFlagged : Prop :=
  ∀ (dir : Bool) (addr : Byte) (data : List Byte), data.length ≤ 3 →
    ∃ c : Byte, (encodeFrame dir addr data)[2]? = some c ∧
      (isDelim addr = true → (encodeFrame dir addr data)[1]? = some (addr ^^^ 1#8) ∧ c.getLsbD 6 = true) ∧
      (isDelim addr = false → (encodeFrame dir addr data)[1]? = some addr ∧ c.getLsbD 6 = false) ∧
      ∀ (i : Nat) (v : Byte), data[i]? = some v →
        (isDelim v = true → (encodeFrame dir addr data)[3 + i]? = some (v ^^^ 1#8) ∧ c.getLsbD (2 + i) = true) ∧
        (isDelim v = false → (encodeFrame dir addr data)[3 + i]? = some v ∧ c.getLsbD (2 + i) = false)

/-- R112: for every direction, address and list of 0 to 3 data bytes, `DECODE` of `ENCODE` is the frame. -/
def Obligations.DecodeUndoesEncode : Prop :=
  ∀ (dir : Bool) (addr : Byte) (data : List Byte), data.length ≤ 3 →
    ∃ ctrl crc : Byte,
      decodeFrame (encodeFrame dir addr data) =
        .frame { dir := dir, addr := addr, data := data, ctrl := ctrl, crc := crc } ∧
      (encodeFrame dir addr data)[2]? = some ctrl ∧ (encodeFrame dir addr data)[3 + data.length]? = some crc

/-- R109 (d): two different logical frames never have the same wire bytes. -/
def Obligations.EncodeIsInjective : Prop :=
  ∀ (dir dir' : Bool) (addr addr' : Byte) (data data' : List Byte), data.length ≤ 3 → data'.length ≤ 3 →
    encodeFrame dir addr data = encodeFrame dir' addr' data' → dir = dir' ∧ addr = addr' ∧ data = data'

/-- R110: `VALIDATE` fails with `ChecksumError` exactly on a differing checksum, never for any other reason: reserved
bit, stray flags and unflagged delimiters are accepted; a delimiter never validates as a checksum. -/
def Obligations.ValidateChecksTheChecksumOnly : Prop :=
  ∀ (c aw k : Byte) (dw : Bytes3),
    (crcGen c aw (dw.first (c.extractLsb' 0 2)) = k →
      validateFrame c aw dw k = .frame
        { dir := c.getLsbD 7, addr := unescape aw (c.getLsbD 6),
          data := List.zipWith unescape (dw.first (c.extractLsb' 0 2)) [c.getLsbD 2, c.getLsbD 3, c.getLsbD 4],
          ctrl := c, crc := k }) ∧
    (crcGen c aw (dw.first (c.extractLsb' 0 2)) ≠ k → validateFrame c aw dw k = .failed .checksum) ∧
    validateFrame c aw dw 0x96#8 = .failed .checksum ∧ validateFrame c aw dw 0xA9#8 = .failed .checksum

/-- R111: `DECODE` fails with `FramingError` on a list too short, without `START` in front, without `STOP` at the end, or
of a length other than `5 + n`, and otherwise says what `VALIDATE` says of its fields. -/
def Obligations.DecodeTestsTheShapeFirst : Prop :=
  ∀ s : List Byte,
    (s.length < 5 → decodeFrame s = .failed .framing) ∧
    (s.head? ≠ some 0x96#8 → decodeFrame s = .failed .framing) ∧
    (s.getLast? ≠ some 0xA9#8 → decodeFrame s = .failed .framing) ∧
    (∀ c : Byte, s[2]? = some c → s.length ≠ 5 + (c.extractLsb' 0 2).toNat → decodeFrame s = .failed .framing) ∧
    (∀ (aw c k : Byte) (dw : List Byte), dw.length = (c.extractLsb' 0 2).toNat →
      s = [0x96#8, aw, c] ++ dw ++ [k, 0xA9#8] →
      decodeFrame s = validateFrame c aw ⟨dw.getD 0 0, dw.getD 1 0, dw.getD 2 0⟩ k)

/-- The function rows and the byte formats complete in every state: no register changes, and the model's answer is the
value the rule defines (R72, R78, R101 to R111; the answer is the model's own, assumption 6). -/
def Obligations.FunctionRowsComputeTheirValue : Prop :=
  ∀ s : State,
    exec .startByte s = .next { s with answer := .computes (.byte 0x96#8) } ∧
    exec .stopByte s = .next { s with answer := .computes (.byte 0xA9#8) } ∧
    (∀ rsv f, ∃ b : Byte, exec (.ctrlByte rsv f) s = .next { s with answer := .computes (.byte b) } ∧
      b.getLsbD 7 = f.dir ∧ b.getLsbD 6 = f.fa ∧ b.getLsbD 5 = rsv ∧ b.getLsbD 4 = f.f2 ∧ b.getLsbD 3 = f.f1 ∧
      b.getLsbD 2 = f.f0 ∧ b.extractLsb' 0 2 = f.n) ∧
    (∀ b, exec (.isdelim b) s = .next { s with answer := .computes (.bit (isDelim b)) }) ∧
    (∀ v, exec (.esc v) s = .next { s with answer := .computes (.escaped (escape v).1 (escape v).2) }) ∧
    (∀ w f, exec (.unesc w f) s = .next { s with answer := .computes (.byte (unescape w f)) }) ∧
    (∀ f, exec (.ctlpack f) s = .next { s with answer := .computes (.byte (ctlPack f)) }) ∧
    (∀ c, exec (.ctlunpack c) s = .next { s with answer := .computes (.fields (ctlUnpack c)) }) ∧
    (∀ c aw dw, exec (.crcgen c aw dw) s =
      .next { s with answer := .computes (.byte (crcGen c aw (([dw.d0, dw.d1, dw.d2]).take dw.n.toNat))) }) ∧
    (∀ dir addr p, exec (.encode dir addr p) s =
      .next { s with answer := .computes (.bytes (encodeFrame dir addr (([p.d0, p.d1, p.d2]).take p.n.toNat))) }) ∧
    (∀ c aw d0 d1 d2 k, exec (.validate c aw d0 d1 d2 k) s =
      .next { s with answer := .computes (.verdict (validateFrame c aw ⟨d0, d1, d2⟩ k)) }) ∧
    (∀ l, exec (.decode l) s = .next { s with answer := .computes (.verdict (decodeFrame l)) })

/-! ### The receiver (41_receiver.md) -/

/-- R132: RX.SKIP is selected in `WAIT_START` by any byte but `0x96`, and writes nothing. -/
def Obligations.RxSkipWritesNothing : Prop :=
  (∀ (b : Byte) (s : State), exec (.rxSkip b) s = .next { s with answer := .silent }) ∧
  (∀ b : Byte, b ≠ 0x96#8 → decode .waitStart (rxByteInput b) = .ok (.rxSkip b))

/-- R132: any number of bytes other than `START` leaves a receiver in `WAIT_START` unchanged. -/
def Obligations.NoiseOutsideAFrameIsSkipped : Prop :=
  ∀ (bs : List Byte) (s : State), s.rxState = .waitStart → (∀ b ∈ bs, b ≠ 0x96#8) →
    ∃ t, feed bs s = .next t ∧ t = { s with answer := t.answer } ∧ ∀ a ∈ feedAnswers bs s, a = .silent

/-- R133: RX.START is selected in `WAIT_START` by `0x96`, stores nothing, and a second `0x96` is an address byte. -/
def Obligations.RxStartOpensACandidate : Prop :=
  (∀ s : State, exec .rxStart s = .next { s with rxState := .readAddress, answer := .silent }) ∧
  decode .waitStart (rxByteInput 0x96#8) = .ok .rxStart ∧
  decode .readAddress (rxByteInput 0x96#8) = .ok (.rxAddr 0x96#8)

/-- R134: RX.ADDR is selected in `READ_ADDRESS` by every byte and stores it as received. -/
def Obligations.RxAddrStoresTheByteAsReceived : Prop :=
  ∀ (b : Byte) (s : State),
    exec (.rxAddr b) s = .next { s with rxAddr := b, rxState := .readControl, answer := .silent } ∧
    decode .readAddress (rxByteInput b) = .ok (.rxAddr b)

/-- R135: RX.CTRL is selected in `READ_CONTROL` by every byte, stores it, zeroes `rx_idx` and learns the length. -/
def Obligations.RxCtrlStoresTheByteAndLearnsTheLength : Prop :=
  (∀ (b : Byte) (s : State),
    exec (.rxCtrl b) s = .next
      { s with rxCtrl := b, rxIdx := 0, answer := .silent,
               rxState := if 0 < (b.extractLsb' 0 2).toNat then .readData else .readCrc } ∧
    decode .readControl (rxByteInput b) = .ok (.rxCtrl b)) ∧
  ctlUnpack 0x96#8 = { dir := true, fa := false, f0 := true, f1 := false, f2 := true, n := 2 } ∧
  ctlUnpack 0xA9#8 = { dir := true, fa := false, f0 := false, f1 := true, f2 := false, n := 1 }

/-- R136: RX.DATA is selected in `READ_DATA` by every byte, stores it as received at `rx_idx`, and stays for another
byte while one is announced. -/
def Obligations.RxDataStoresTheByteAtTheIndex : Prop :=
  ∀ (b : Byte) (s : State),
    let after : Bytes3 → State := fun d =>
      if s.rxIdx.toNat + 1 < (s.rxCtrl.extractLsb' 0 2).toNat then
        { s with rxData := d, rxIdx := s.rxIdx + 1, answer := .silent }
      else { s with rxData := d, rxState := .readCrc, answer := .silent }
    (s.rxIdx = 0 → exec (.rxData b) s = .next (after ⟨b, s.rxData.b1, s.rxData.b2⟩)) ∧
    (s.rxIdx = 1 → exec (.rxData b) s = .next (after ⟨s.rxData.b0, b, s.rxData.b2⟩)) ∧
    (s.rxIdx = 2 → exec (.rxData b) s = .next (after ⟨s.rxData.b0, s.rxData.b1, b⟩)) ∧
    decode .readData (rxByteInput b) = .ok (.rxData b)

/-- R137: RX.CRC is selected in `READ_CRC` by every byte and stores it unexamined; a delimiter so stored never
validates. -/
def Obligations.RxCrcStoresTheByte : Prop :=
  ∀ (b : Byte) (s : State),
    exec (.rxCrc b) s = .next { s with rxCrc := b, rxState := .expectStop, answer := .silent } ∧
    decode .readCrc (rxByteInput b) = .ok (.rxCrc b) ∧
    (b = 0x96#8 ∨ b = 0xA9#8 → ∀ (c aw : Byte) (dw : Bytes3), validateFrame c aw dw b = .failed .checksum)

/-- R138: RX.STOP is selected in `EXPECT_STOP` by `0xA9`. With a good checksum it writes all published-frame registers
and `frame_ready` and emits `Published`; otherwise it discards. `out_data` past the count is left open (R28). -/
def Obligations.RxStopPublishesOrDiscards : Prop :=
  decode .expectStop (rxByteInput 0xA9#8) = .ok .rxStop ∧
  ∀ s : State,
    let n := s.rxCtrl.extractLsb' 0 2
    let dw := s.rxData.first n
    let f : Frame :=
      { dir := s.rxCtrl.getLsbD 7, addr := unescape s.rxAddr (s.rxCtrl.getLsbD 6),
        data := List.zipWith unescape dw [s.rxCtrl.getLsbD 2, s.rxCtrl.getLsbD 3, s.rxCtrl.getLsbD 4],
        ctrl := s.rxCtrl, crc := s.rxCrc }
    (crcGen s.rxCtrl s.rxAddr dw = s.rxCrc →
      ∃ t, exec .rxStop s = .next t ∧
        t = { s with outDir := f.dir, outAddr := f.addr, outN := n, outData := t.outData, outCtrl := s.rxCtrl,
                     outCrc := s.rxCrc, frameReady := true, rxState := .waitStart, answer := .emits (.published f),
                     freeCount := t.freeCount } ∧
        t.outData.first n = f.data) ∧
    (crcGen s.rxCtrl s.rxAddr dw ≠ s.rxCrc →
      exec .rxStop s = .next
        { s with rxState := .waitStart, rxError := true, rxCause := .checksum,
                 answer := .emits (.discarded .checksum) })

/-- R139: RX.BADSTOP is selected in `EXPECT_STOP` by every byte but `0xA9`, `0x96` among them, and discards. -/
def Obligations.RxBadstopDiscards : Prop :=
  (∀ (b : Byte) (s : State),
    exec (.rxBadstop b) s = .next
      { s with rxState := .waitStart, rxError := true, rxCause := .framingStop,
               answer := .emits (.discarded .framingStop) }) ∧
  (∀ b : Byte, b ≠ 0xA9#8 → decode .expectStop (rxByteInput b) = .ok (.rxBadstop b)) ∧
  decode .expectStop (rxByteInput 0x96#8) = .ok (.rxBadstop 0x96#8) ∧ Cause.framingStop.code = 1

/-- R141: RX.LINE_ERR is selected in every state by event kind 1, and discards, in `WAIT_START` too. -/
def Obligations.RxLineErrDiscardsInAnyState : Prop :=
  (∀ s : State,
    exec .rxLineErr s = .next
      { s with rxState := .waitStart, rxError := true, rxCause := .framingLine,
               answer := .emits (.discarded .framingLine) }) ∧
  (∀ (st : RxState) (b : Byte) (t : BitVec 35), decode st (.event (0x1#4 ++ b) t) = .ok .rxLineErr) ∧
  Cause.framingLine.code = 2

/-- R216: the discard sequence, by each of the three operations that perform it: `WAIT_START`, the error flag, the
cause's code and `Discarded(cause)`, and nothing else. -/
def Obligations.DiscardSequenceChangesNothingElse : Prop :=
  ∀ s : State,
    let discarded : Cause → State := fun c =>
      { s with rxState := .waitStart, rxError := true, rxCause := c, answer := .emits (.discarded c) }
    (crcGen s.rxCtrl s.rxAddr (s.rxData.first (s.rxCtrl.extractLsb' 0 2)) ≠ s.rxCrc →
      exec .rxStop s = .next (discarded .checksum)) ∧
    (∀ b : Byte, exec (.rxBadstop b) s = .next (discarded .framingStop)) ∧
    exec .rxLineErr s = .next (discarded .framingLine) ∧
    Cause.framingStop.code = 1 ∧ Cause.framingLine.code = 2 ∧ Cause.checksum.code = 3

/-- The model's choice (log entry 8: DESIGN CHOICE): the two accesses to an element that a register array does not have
stop the machine with a fault. The spec gives the arrays their elements (10_state.md R20) and no stop. -/
def Obligations.AccessOutsideARegisterArrayFaults : Prop :=
  (∀ (b : Byte) (s : State), s.rxIdx = 3 → exec (.rxData b) s = .fault .rxDataIndex) ∧
  (∀ s : State, s.txBusy = true → 8 ≤ s.txPos.toNat → exec .txNext s = .fault .txBufIndex)

/-- R131: a received byte moves `rx_state` as the table says, and sets `rx_idx` where the table names it; a line error
and a reset go to `WAIT_START`; no other operation moves it. -/
def Obligations.RxStateFollowsTheTransitionTable : Prop :=
  (∀ (s : State) (b : Byte), s.rxIdx.toNat < 3 →
    let n := (if s.rxState = .readControl then b.extractLsb' 0 2 else s.rxCtrl.extractLsb' 0 2).toNat
    ∃ t, deliver (rxByteInput b) s = .next t ∧ t.rxState = nextRxState s.rxState b n s.rxIdx.toNat ∧
      (s.rxState = .readControl → t.rxIdx = 0) ∧
      (s.rxState = .readData → s.rxIdx.toNat + 1 < n → t.rxIdx.toNat = s.rxIdx.toNat + 1)) ∧
  (∀ s t : State, exec .rxLineErr s = .next t ∨ exec .reset s = .next t → t.rxState = .waitStart) ∧
  (∀ (i : Instr) (s t : State), contextOf i = .host ∨ contextOf i = .transmit ∨ contextOf i = .outside →
    exec i s = .next t → t.rxState = s.rxState)

/-- R140: no receiver operation reads `frame_ready`: with any value in it the step is the same, and afterwards the flag
is set where a frame was published and as it was elsewhere. -/
def Obligations.ReceiverIgnoresFrameReady : Prop :=
  ∀ (i : Instr) (s : State) (v : Bool), contextOf i = .receive →
    exec i { s with frameReady := v } =
      match exec i s with
      | .next t => .next { t with frameReady := v || t.answer.publishes }
      | .fault r => .fault r
      | .refused r => .refused r

/-- R144, its unconditional part: what is published has passed `VALIDATE` on the accumulated bytes, at RX.STOP. -/
def Obligations.EveryPublishedFrameIsValidated : Prop :=
  ∀ (i : Instr) (s t : State) (f : Frame), exec i s = .next t → t.answer = .emits (.published f) →
    i = .rxStop ∧ validateFrame s.rxCtrl s.rxAddr s.rxData s.rxCrc = .frame f ∧ t.publishedFrame = f ∧
      t.frameReady = true

/-- R146: a receiver in `WAIT_START` that is fed a byte list publishes, at its last byte and not before, the frame that
`DECODE` gives for the list, whenever it gives one. -/
def Obligations.ReceiverAgreesWithDecode : Prop :=
  ∀ (bs : List Byte) (f : Frame) (s : State), s.rxState = .waitStart → decodeFrame bs = .frame f →
    ∃ t, feed bs s = .next t ∧ t.rxState = .waitStart ∧ t.frameReady = true ∧ t.publishedFrame = f ∧
      t.rxError = s.rxError ∧ t.rxCause = s.rxCause ∧
      feedAnswers bs s = List.replicate (bs.length - 1) .silent ++ [.emits (.published f)]

/-- R144: a canonical frame that arrives whole at a receiver in `WAIT_START` is published by its last byte, exactly as
sent, and nothing is published before. -/
def Obligations.CanonicalFrameIsPublished : Prop :=
  ∀ (dir : Bool) (addr : Byte) (data : List Byte) (s : State), data.length ≤ 3 → s.rxState = .waitStart →
    ∃ t ctrl crc, feed (encodeFrame dir addr data) s = .next t ∧ t.rxState = .waitStart ∧ t.frameReady = true ∧
      t.publishedFrame = { dir := dir, addr := addr, data := data, ctrl := ctrl, crc := crc } ∧
      feedAnswers (encodeFrame dir addr data) s =
        List.replicate (4 + data.length) .silent ++
          [.emits (.published { dir := dir, addr := addr, data := data, ctrl := ctrl, crc := crc })]

/-- R116: a canonical frame with a changed checksum byte fails to decode, and a receiver in `WAIT_START` that is fed it
publishes nothing, returns to `WAIT_START` and records a checksum discard; published frame, `frame_ready` and transmitter
are as before. -/
def Obligations.CorruptedChecksumIsDiscarded : Prop :=
  ∀ (dir : Bool) (addr : Byte) (data : List Byte) (k : Byte) (s : State), data.length ≤ 3 → s.rxState = .waitStart →
    (encodeFrame dir addr data)[3 + data.length]? ≠ some k →
    decodeFrame ((encodeFrame dir addr data).set (3 + data.length) k) = .failed .checksum ∧
    ∃ t, feed ((encodeFrame dir addr data).set (3 + data.length) k) s = .next t ∧
      t = { s with rxState := .waitStart, rxIdx := t.rxIdx, rxAddr := t.rxAddr, rxCtrl := t.rxCtrl,
                   rxData := t.rxData, rxCrc := k, rxError := true, rxCause := .checksum,
                   answer := .emits (.discarded .checksum) } ∧
      ∀ a ∈ feedAnswers ((encodeFrame dir addr data).set (3 + data.length) k) s, a.publishes = false

/-- R145: within 7 received bytes the receiver is in `WAIT_START`, whatever the bytes; one line error or reset takes it
there at once. -/
def Obligations.ReceiverReturnsToWaitStart : Prop :=
  (∀ (s : State) (bs : List Byte), BlockInv s → bs.length = 7 →
    ∃ k t, k ≤ 7 ∧ feed (bs.take k) s = .next t ∧ t.rxState = .waitStart) ∧
  (∀ s : State, ∃ t, exec .rxLineErr s = .next t ∧ t.rxState = .waitStart) ∧
  (∀ s : State, ∃ t, exec .reset s = .next t ∧ t.rxState = .waitStart)

/-! ### The transmitter (42_transmitter.md) -/

/-- R161: an idle transmitter is loaded with the encoded frame; the buffer past it is left open. While it is busy
TX.LOAD is refused: nothing of the block changes (the noted refusal is the model's own, assumption 1). -/
def Obligations.TxLoadArmsTheSequencer : Prop :=
  ∀ (dir : Bool) (addr : Byte) (p : Payload) (s : State),
    (s.txBusy = false →
      ∃ t, exec (.txLoad dir addr p) s = .next t ∧
        t = { s with txBuf := t.txBuf, txLen := 5 + p.n.setWidth 4, txPos := 0, txBusy := true, answer := .silent,
                     freeCount := t.freeCount } ∧
        t.txBuf.first t.txLen = encodeFrame dir addr (([p.d0, p.d1, p.d2]).take p.n.toNat)) ∧
    (s.txBusy = true → exec (.txLoad dir addr p) s = .next { s with answer := .refuses .txBusy })

/-- R162: an idle transmitter ignores TX.NEXT; a busy one emits `tx_buf[tx_pos]`, advances, and is idle after the last
byte. -/
def Obligations.TxNextEmitsOneByte : Prop :=
  ∀ s : State,
    (s.txBusy = false → exec .txNext s = .next { s with answer := .silent }) ∧
    (∀ b : Byte, s.txBusy = true → s.txBuf.get s.txPos.toNat = some b →
      exec .txNext s = .next
        { s with txPos := s.txPos + 1, txBusy := !(s.txPos + 1 == s.txLen), answer := .emits (.txByte b) })

/-- R162, R164: after an accepted TX.LOAD, `5 + n` TX.NEXT emit exactly the bytes of the encoded frame in order and leave
the transmitter idle, the receiver and the published frame untouched; a further TX.NEXT emits nothing. -/
def Obligations.LoadedFrameIsTransmittedInOrder : Prop :=
  ∀ (dir : Bool) (addr : Byte) (p : Payload) (s : State), s.txBusy = false →
    ∃ t u, exec (.txLoad dir addr p) s = .next t ∧
      drain (5 + p.n.toNat) t = some
        ((encodeFrame dir addr (([p.d0, p.d1, p.d2]).take p.n.toNat)).map fun b => .emits (.txByte b), u) ∧
      u = { s with txBuf := u.txBuf, txLen := u.txLen, txPos := u.txPos, txBusy := false, answer := u.answer,
                   freeCount := u.freeCount } ∧
      u.txPos = u.txLen ∧ exec .txNext u = .next { u with answer := .silent }

/-! ### The host, reset and the reserved kinds (43_host_and_environment.md, 70_reset_and_hazards.md, 30_encoding.md) -/

/-- R176: HOST.ACK clears `frame_ready`, set or not, and nothing else. -/
def Obligations.HostAckClearsFrameReady : Prop :=
  (∀ s : State, exec .hostAck s = .next { s with frameReady := false, answer := .silent }) ∧
  (∀ (st : RxState) (b : Byte) (t : BitVec 35), decode st (.event (0x2#4 ++ b) t) = .ok .hostAck)

/-- R177: HOST.CLRERR clears `rx_error` and `rx_cause`, set or not, and nothing else. -/
def Obligations.HostClrerrClearsTheErrorStatus : Prop :=
  (∀ s : State, exec .hostClrerr s = .next { s with rxError := false, rxCause := .none, answer := .silent }) ∧
  (∀ (st : RxState) (b : Byte) (t : BitVec 35), decode st (.event (0x3#4 ++ b) t) = .ok .hostClrerr) ∧
  Cause.none.code = 0

/-- R178: HOST.READ returns the published frame, with exactly `out_n` data bytes, and changes nothing; while
`frame_ready = 0` it is refused (the noted refusal is the model's own, assumption 1). -/
def Obligations.HostReadReturnsThePublishedFrame : Prop :=
  ∀ s : State,
    (s.frameReady = true →
      ∃ f : Frame, exec .hostRead s = .next { s with answer := .emits (.readResult f) } ∧
        f.dir = s.outDir ∧ f.addr = s.outAddr ∧ f.ctrl = s.outCtrl ∧ f.crc = s.outCrc ∧
        f.data.length = s.outN.toNat ∧ ∀ i < s.outN.toNat, f.data[i]? = s.outData.get i) ∧
    (s.frameReady = false → exec .hostRead s = .next { s with answer := .refuses .noFrame })

/-- R240: RESET is never refused and silent, gives every specified register its value, and leaves the others
open. That the outstanding events and a byte on the line stay as they are is the model's choice (log entries 4 and 9:
DESIGN CHOICE), not R240's. -/
def Obligations.ResetGivesTheSpecifiedValues : Prop :=
  (∀ s : State, ∃ t, exec .reset s = .next t ∧
    t = { s with
      rxState := .waitStart, rxIdx := 0, frameReady := false, rxError := false, rxCause := .none, txBusy := false,
      txPos := 0, txLen := 0, answer := .silent,
      rxAddr := t.rxAddr, rxCtrl := t.rxCtrl, rxData := t.rxData, rxCrc := t.rxCrc, outDir := t.outDir,
      outAddr := t.outAddr, outN := t.outN, outData := t.outData, outCtrl := t.outCtrl, outCrc := t.outCrc,
      txBuf := t.txBuf, freeCount := t.freeCount }) ∧
  (∀ (st : RxState) (b : Byte) (t : BitVec 35), decode st (.event (0xF#4 ++ b) t) = .ok .reset)

/-- R44, R243: the reset state is a launch state, and RESET makes a launch state of any state with nothing pending. -/
def Obligations.ResetIsALaunchState : Prop :=
  Launch State.reset ∧
  ∀ s t : State, s.input = [] → s.echo = none → exec .reset s = .next t → Launch t

/-- R81, R84: every event word of a kind from 7 to 0xE selects a reserved row; it is refused: nothing of the block
changes and there is no output (the noted refusal is the model's own, assumption 1). -/
def Obligations.ReservedKindsChangeNothing : Prop :=
  (∀ (st : RxState) (k : BitVec 4) (b : Byte) (t : BitVec 35), 7 ≤ k.toNat → k.toNat ≤ 14 →
    ∃ i, decode st (.event (k ++ b) t) = .ok i ∧
      i ∈ [.evReserved7, .evReserved8B 0, .evReserved8B 1, .evReserved8B 2, .evReserved8B 3, .evReservedCD 0,
           .evReservedCD 1, .evReservedE]) ∧
  (∀ s : State,
    exec .evReserved7 s = .next { s with answer := .refuses .reservedKind } ∧
    (∀ k, exec (.evReserved8B k) s = .next { s with answer := .refuses .reservedKind }) ∧
    (∀ k, exec (.evReservedCD k) s = .next { s with answer := .refuses .reservedKind }) ∧
    exec .evReservedE s = .next { s with answer := .refuses .reservedKind })

/-- R37: the optional status word, bit by bit. -/
def Obligations.StatusWordPacksTheFlags : Prop :=
  ∀ s : State,
    s.statusWord.getLsbD 0 = s.frameReady ∧ s.statusWord.getLsbD 1 = s.rxError ∧
    s.statusWord.extractLsb' 2 2 = s.rxCause.code ∧ s.statusWord.getLsbD 4 = s.txBusy ∧
    s.statusWord.extractLsb' 5 3 = 0

/-! ### The whole machine -/

/-- R61, R225: the receive context clears no flag and leaves the transmitter; the host writes no receiver or published
register and sets neither `frame_ready` nor `rx_error`; the transmitter touches only its own registers. -/
def Obligations.ContextsKeepTheirRights : Prop :=
  ∀ (i : Instr) (s t : State), exec i s = .next t →
    (contextOf i = .receive →
      (s.frameReady = true → t.frameReady = true) ∧ (s.rxError = true → t.rxError = true) ∧
      (s.rxCause ≠ .none → t.rxCause ≠ .none) ∧
      t.txBuf = s.txBuf ∧ t.txLen = s.txLen ∧ t.txPos = s.txPos ∧ t.txBusy = s.txBusy) ∧
    (contextOf i = .host →
      t = { s with frameReady := t.frameReady, rxError := t.rxError, rxCause := t.rxCause, txBuf := t.txBuf,
                   txLen := t.txLen, txPos := t.txPos, txBusy := t.txBusy, answer := t.answer,
                   freeCount := t.freeCount } ∧
      (t.frameReady = true → s.frameReady = true) ∧ (t.rxError = true → s.rxError = true) ∧
      (t.rxCause = s.rxCause ∨ t.rxCause = .none)) ∧
    (contextOf i = .transmit → t = { s with txPos := t.txPos, txBusy := t.txBusy, answer := t.answer }) ∧
    (contextOf i = .outside → t = { s with answer := t.answer })

/-- R28, R29, R60 (d): only RX.STOP, when it publishes, and RESET write the published-frame registers; `frame_ready` is
cleared by HOST.ACK and RESET alone. -/
def Obligations.PublishedFrameIsWrittenByPublicationOnly : Prop :=
  ∀ (i : Instr) (s t : State), exec i s = .next t → i ≠ .reset → t.answer.publishes = false →
    t.outDir = s.outDir ∧ t.outAddr = s.outAddr ∧ t.outN = s.outN ∧ t.outData = s.outData ∧ t.outCtrl = s.outCtrl ∧
      t.outCrc = s.outCrc ∧ (i ≠ .hostAck → t.frameReady = s.frameReady)

/-- R30, R31: `rx_error` and `rx_cause` change only by a discard, HOST.CLRERR and RESET. -/
def Obligations.ErrorStatusRecordsDiscardsOnly : Prop :=
  ∀ (i : Instr) (s t : State), exec i s = .next t → i ≠ .hostClrerr → i ≠ .reset →
    (∃ c, c ≠ .none ∧ t.answer = .emits (.discarded c) ∧ t.rxError = true ∧ t.rxCause = c ∧ contextOf i = .receive) ∨
    ((∀ c, t.answer ≠ .emits (.discarded c)) ∧ t.rxError = s.rxError ∧ t.rxCause = s.rxCause)

/-- 00_scope.md R14: with no echo pending, a step takes the first outstanding item and runs the operation it selects in
the present `rx_state`, then hears its own byte; with nothing outstanding the state is held (R142). -/
def Obligations.StepRunsTheSelectedOperation : Prop :=
  (∀ (s : State) (x : Input) (rest : List Input) (i : Instr), s.echo = none → s.input = x :: rest →
    decode s.rxState x = .ok i →
    step s = match exec i { s with input := rest } with
      | .next t => .next t.hearOwn
      | .fault r => .fault r
      | .refused r => .refused r) ∧
  (∀ s : State, s.echo = none → s.input = [] → step s = .next { s with answer := .silent })

/-- A table word placed where the next step fetches is the operation the next step runs (the layout is the model's own,
assumption 7). -/
def Obligations.PlacedWordRunsNext : Prop :=
  ∀ (s : State) (nbits w : Nat) (i : Instr), decodeTableWord nbits w = some i →
    ∃ st : RxState, i.selectedIn st = true ∧
      step (s.withFetchWord nbits w) = match exec i { s with rxState := st, echo := none } with
        | .next t => .next t.hearOwn
        | .fault r => .fault r
        | .refused r => .refused r

/-- D22: with `LOOPBACK` an emitted byte waits to be heard, without it nothing ever waits; a waiting byte is heard, as
`RxByte` of the same value, before the next `TxByte`. -/
def Obligations.EmittedByteIsHeardBeforeTheNext : Prop :=
  (∀ (s t : State) (b : Byte), step s = .next t → t.answer = .emits (.txByte b) →
    t.echo = if Config.loopback = true then some b else s.echo) ∧
  (∀ (s t : State), s.echo = none → step s = .next t → t.echo = none ∨ Config.loopback = true) ∧
  (∀ (s t : State) (b : Byte), s.echo = some b → step s = .next t →
    (∀ c, t.answer ≠ .emits (.txByte c)) ∧
    (t.echo = some b ∨ ∃ k u, deliver (rxByteInput b) { s with echo := none, freeCount := k } = .next u ∧ t = u))

/-- The invariant (R30, R31, R41, R43, R144, R164) holds in every launch state, the reset state among them. -/
def Obligations.LaunchStatesMeetTheInvariant : Prop :=
  BlockInv State.reset ∧ ∀ s : State, Launch s → BlockInv s

/-- Every step keeps the invariant, from every state that has it (R30, R31, R41, R43, R144, R164). -/
def Obligations.EveryStepKeepsTheInvariant : Prop :=
  ∀ s t : State, BlockInv s → step s = .next t → BlockInv t

/-- R244: from a state with the invariant the machine never stops on an event: no step faults, and none is refused unless
the outstanding item is a call that is no function. -/
def Obligations.InvariantStatesNeverStop : Prop :=
  ∀ s : State, BlockInv s → (∀ i, Input.call i ∈ s.input → i.isFunc = true) → ∃ t, step s = .next t

/-- R26, R28, R42, R44: registers that hold no value of their own are not observable: two states that differ only in
them answer alike and keep differing only in them, at every step of a state with the invariant. -/
def Obligations.UnspecifiedRegistersAreUnobservable : Prop :=
  ∀ s t : State, BlockInv s → SameView s t → SameOutcome (step s) (step t)

/-! ### Encodings (30_encoding.md) -/

/-- R81 to R83: the decoder undoes the encoder on every well-formed operation, in every state that selects it. -/
def Obligations.DecodeUndoesEncodeOfEveryOperation : Prop :=
  ∀ (i : Instr) (st : RxState), i.wf = true → i.selectedIn st = true → decode st (encode i) = .ok i

/-- R82, R83: every event word selects, in every state, exactly the operation of the first table row that applies and
fits; the operation is well-formed. -/
def Obligations.EveryEventSelectsItsTableRow : Prop :=
  ∀ (st : RxState) (ev : BitVec 12) (txop : BitVec 35),
    ∃ i r, decode st (.event ev txop) = .ok i ∧ rowOf st ev = some r ∧ r.mnemonic = i.mnemonic ∧
      i.wf = true ∧ i.selectedIn st = true

/-- R81, R85: words written out from the encoding decode to the operations they stand for. -/
def Obligations.WrittenOutWordsDecode : Prop :=
  decode .waitStart (.event 0x096#12 0) = .ok .rxStart ∧
  decode .readAddress (.event 0x0A0#12 0) = .ok (.rxAddr 0xA0#8) ∧
  decode .expectStop (.event 0x0A9#12 0) = .ok .rxStop ∧
  decode .readCrc (.event 0x100#12 0) = .ok .rxLineErr ∧
  decode .waitStart (.event 0x400#12 0) = .ok .hostRead ∧
  decode .waitStart (.event 0x500#12 0x1A0000045#35) =
    .ok (.txLoad false 0xA0#8 { n := 1, d0 := 0x45#8, d1 := 0x00#8, d2 := 0x00#8 }) ∧
  decode .waitStart (.event 0x600#12 0) = .ok .txNext ∧
  decode .readData (.event 0xF00#12 0) = .ok .reset ∧
  decode .waitStart (.byte8 0x81#8) =
    .ok (.ctrlByte false { dir := true, fa := false, f0 := false, f1 := false, f2 := false, n := 1 })

/-! ### The environment's contracts (43_host_and_environment.md, outside the block) -/

/-- R185, R189 to R191: a frame for another node is acknowledged and dropped; a request to this node is answered by its
command code. That surplus operand bytes (`l` not empty) are ignored is the model's choice (log entry 17: DESIGN CHOICE). -/
def Obligations.DispatcherAnswersByCommandCode : Prop :=
  ∀ (node : Node) (raw : Option Bytes3) (f : Frame),
    (f.addr ≠ node.address → react node raw f = .ignore) ∧
    (∀ (a : Byte) (l : List Byte), f.addr = node.address → f.data = 0x01#8 :: a :: l →
      react node raw f = .replyThenRestart [a] a ∧ (a ≠ 0xFF#8 → (nodeAfter node (react node raw f)).map Node.address = some a)) ∧
    (∀ (r : Bytes3) (l : List Byte), f.addr = node.address → f.data = 0x02#8 :: l → raw = some r →
      react node raw f = .reply [r.b0, r.b1, r.b2]) ∧
    (∀ (c : Byte) (l : List Byte), f.addr = node.address → f.data = c :: l → c ≠ 0x01#8 → c ≠ 0x02#8 →
      react node raw f = .reply [0x45#8])
end

