-- ==== Sys2Proof/Laws/Arrays.lean ====
section
/-! SUPPORT. Register arrays: reading after writing, and arrays filled from a list. -/

namespace Sys2Proof.Machine

/-- All that `x[i] <- v` can do: `i` is 0, 1 or 2. -/
theorem set_cases {x y : Bytes3} {i : Nat} {v : Byte} (h : x.set i v = some y) :
    (i = 0 ∧ y = ⟨v, x.b1, x.b2⟩) ∨ (i = 1 ∧ y = ⟨x.b0, v, x.b2⟩) ∨ (i = 2 ∧ y = ⟨x.b0, x.b1, v⟩) := by
  match i, h with
  | 0, h => exact .inl ⟨rfl, (Option.some.inj h).symm⟩
  | 1, h => exact .inr (.inl ⟨rfl, (Option.some.inj h).symm⟩)
  | 2, h => exact .inr (.inr ⟨rfl, (Option.some.inj h).symm⟩)

/-- There is an element to write exactly below 3. -/
theorem set_isSome (x : Bytes3) (i : Nat) (v : Byte) : (x.set i v).isSome = decide (i < 3) := by
  match i with
  | 0 | 1 | 2 => rfl
  | n + 3 => simp [Bytes3.set]

/-- Reading the element just written gives the value written. -/
theorem get_set_same {x y : Bytes3} {i : Nat} {v : Byte} (h : x.set i v = some y) : y.get i = some v := by
  obtain ⟨rfl, rfl⟩ | ⟨rfl, rfl⟩ | ⟨rfl, rfl⟩ := set_cases h <;> rfl

/-- A write leaves every other element alone. -/
theorem get_set_other {x y : Bytes3} {i j : Nat} {v : Byte} (h : x.set i v = some y) (hj : j ≠ i) :
    y.get j = x.get j := by
  obtain ⟨rfl, rfl⟩ | ⟨rfl, rfl⟩ | ⟨rfl, rfl⟩ := set_cases h <;>
    (match j, hj with
     | 0, _ | 1, _ | 2, _ => first | rfl | contradiction
     | n + 3, _ => rfl)

/-- The elements before the one written are as before. -/
theorem first_set {x y : Bytes3} {i : Nat} {v : Byte} {n : BitVec 2} (h : x.set i v = some y) (hn : n.toNat ≤ i) :
    y.first n = x.first n := by
  obtain ⟨rfl, rfl⟩ | ⟨rfl, rfl⟩ | ⟨rfl, rfl⟩ := set_cases h <;> unfold Bytes3.first <;>
    generalize n.toNat = m at hn ⊢ <;> interval_cases m <;> rfl

/-- A list of the right length is what an array filled from it shows. -/
theorem ofList_first (l : List Byte) (k : Nat) (n : BitVec 2) (h : l.length = n.toNat) :
    (Bytes3.ofList l k).first n = l := by
  have hn : n.toNat < 4 := n.isLt
  unfold Bytes3.first
  rw [← h]
  match l with
  | [] | [_] | [_, _] | [_, _, _] => rfl
  | _ :: _ :: _ :: _ :: _ => simp at h; omega

/-- A list of at most eight bytes is what an array filled from it shows. -/
theorem ofList8_take (l : List Byte) (k : Nat) (h : l.length ≤ 8) : (Bytes8.ofList l k).toList.take l.length = l := by
  match l with
  | [] | [_] | [_, _] | [_, _, _] | [_, _, _, _] | [_, _, _, _, _] | [_, _, _, _, _, _] | [_, _, _, _, _, _, _]
  | [_, _, _, _, _, _, _, _] => rfl
  | _ :: _ :: _ :: _ :: _ :: _ :: _ :: _ :: _ :: _ => simp at h; omega

/-- A payload has as many data bytes as it says. -/
@[simp] theorem payloadBytes_length (p : Payload) : (payloadBytes p).length = p.n.toNat := by
  have := p.n.isLt
  simp [payloadBytes]
  omega

/-- The first `n` elements are `n`. -/
@[simp] theorem first_length (x : Bytes3) (n : BitVec 2) : (x.first n).length = n.toNat := by
  have := n.isLt
  simp [Bytes3.first, Bytes3.toList]
  omega

end Sys2Proof.Machine
end

