-- ==== Sys2Proof/Laws/Decode.lean ====
section
/-! SUPPORT. What the decoder can answer: an event word taken apart, and the state a decoded operation needs. -/

namespace Sys2Proof.Machine

/-- The kind of a word built from a kind and an operand byte. -/
@[simp] theorem evKind_append (k : BitVec 4) (b : Byte) : evKind (k ++ b) = k := by
  unfold evKind
  ext i hi
  have h := BitVec.getLsbD_append (x := k) (y := b) (i := 8 + i)
  simp at h
  simp
  exact h

/-- The operand byte of a word built from a kind and an operand byte. -/
@[simp] theorem evByte_append (k : BitVec 4) (b : Byte) : evByte (k ++ b) = b := by
  unfold evByte
  ext i hi
  have h := BitVec.getLsbD_append (x := k) (y := b) (i := i)
  simp [hi] at h
  simp
  exact h

/-- Every event word is a kind and an operand byte. -/
theorem event_split (ev : BitVec 12) : ∃ (k : BitVec 4) (b : Byte), ev = k ++ b := by
  refine ⟨ev.extractLsb' 8 4, ev.extractLsb' 0 8, ?_⟩
  apply BitVec.eq_of_getLsbD_eq
  intro i hi
  have h := BitVec.getLsbD_append (x := ev.extractLsb' 8 4) (y := ev.extractLsb' 0 8) (i := i)
  refine Eq.trans ?_ h.symm
  by_cases h8 : i < 8
  · simp [h8]
  · have h4 : i - 8 < 4 := by omega
    simp [h8, h4]
    congr 1
    omega

/-- A received byte selects by `rx_state` (30_encoding.md R82). -/
theorem decode_rxByte (st : RxState) (b : Byte) : decode st (rxByteInput b) = .ok (decodeRxByte st b) := by
  simp [decode, rxByteInput, decodeEvent, evWord]

/-- Delivering a received byte is executing the operation it selects. -/
theorem deliver_rxByte (b : Byte) (s : State) : deliver (rxByteInput b) s = exec (decodeRxByte s.rxState b) s := by
  unfold deliver
  rw [decode_rxByte]

/-- An operation that a received byte selects is one of the receiver's for that state. -/
theorem decodeRxByte_selectedIn (st : RxState) (b : Byte) : (decodeRxByte st b).selectedIn st = true := by
  unfold decodeRxByte
  cases st <;> simp only [] <;> (try split) <;> rfl

end Sys2Proof.Machine
end

