-- ==== Sys2Proof/Laws/State.lean ====
section
/-! SUPPORT. What each shared update of the state does to each of its fields: one lemma per field per update. -/

namespace Sys2Proof.Machine

@[simp] theorem hdrOrder_eq : Config.hdrOrder = .addrFirst := rfl

@[simp] theorem crcDomain_eq : Config.crcDomain = .wire := rfl

/-! ### `State.answering` -/

@[simp] theorem answering_rxState (a : Answer) (s : State) : (s.answering a).rxState = s.rxState := rfl
@[simp] theorem answering_rxIdx (a : Answer) (s : State) : (s.answering a).rxIdx = s.rxIdx := rfl
@[simp] theorem answering_rxAddr (a : Answer) (s : State) : (s.answering a).rxAddr = s.rxAddr := rfl
@[simp] theorem answering_rxCtrl (a : Answer) (s : State) : (s.answering a).rxCtrl = s.rxCtrl := rfl
@[simp] theorem answering_rxData (a : Answer) (s : State) : (s.answering a).rxData = s.rxData := rfl
@[simp] theorem answering_rxCrc (a : Answer) (s : State) : (s.answering a).rxCrc = s.rxCrc := rfl
@[simp] theorem answering_outDir (a : Answer) (s : State) : (s.answering a).outDir = s.outDir := rfl
@[simp] theorem answering_outAddr (a : Answer) (s : State) : (s.answering a).outAddr = s.outAddr := rfl
@[simp] theorem answering_outN (a : Answer) (s : State) : (s.answering a).outN = s.outN := rfl
@[simp] theorem answering_outData (a : Answer) (s : State) : (s.answering a).outData = s.outData := rfl
@[simp] theorem answering_outCtrl (a : Answer) (s : State) : (s.answering a).outCtrl = s.outCtrl := rfl
@[simp] theorem answering_outCrc (a : Answer) (s : State) : (s.answering a).outCrc = s.outCrc := rfl
@[simp] theorem answering_frameReady (a : Answer) (s : State) : (s.answering a).frameReady = s.frameReady := rfl
@[simp] theorem answering_rxError (a : Answer) (s : State) : (s.answering a).rxError = s.rxError := rfl
@[simp] theorem answering_rxCause (a : Answer) (s : State) : (s.answering a).rxCause = s.rxCause := rfl
@[simp] theorem answering_txBuf (a : Answer) (s : State) : (s.answering a).txBuf = s.txBuf := rfl
@[simp] theorem answering_txLen (a : Answer) (s : State) : (s.answering a).txLen = s.txLen := rfl
@[simp] theorem answering_txPos (a : Answer) (s : State) : (s.answering a).txPos = s.txPos := rfl
@[simp] theorem answering_txBusy (a : Answer) (s : State) : (s.answering a).txBusy = s.txBusy := rfl
@[simp] theorem answering_answer (a : Answer) (s : State) : (s.answering a).answer = a := rfl
@[simp] theorem answering_input (a : Answer) (s : State) : (s.answering a).input = s.input := rfl
@[simp] theorem answering_echo (a : Answer) (s : State) : (s.answering a).echo = s.echo := rfl
@[simp] theorem answering_freeCount (a : Answer) (s : State) : (s.answering a).freeCount = s.freeCount := rfl

/-! ### `State.refuse` -/

@[simp] theorem refuse_rxState (r : Unaccepted) (s : State) : (s.refuse r).rxState = s.rxState := rfl
@[simp] theorem refuse_rxIdx (r : Unaccepted) (s : State) : (s.refuse r).rxIdx = s.rxIdx := rfl
@[simp] theorem refuse_rxAddr (r : Unaccepted) (s : State) : (s.refuse r).rxAddr = s.rxAddr := rfl
@[simp] theorem refuse_rxCtrl (r : Unaccepted) (s : State) : (s.refuse r).rxCtrl = s.rxCtrl := rfl
@[simp] theorem refuse_rxData (r : Unaccepted) (s : State) : (s.refuse r).rxData = s.rxData := rfl
@[simp] theorem refuse_rxCrc (r : Unaccepted) (s : State) : (s.refuse r).rxCrc = s.rxCrc := rfl
@[simp] theorem refuse_outDir (r : Unaccepted) (s : State) : (s.refuse r).outDir = s.outDir := rfl
@[simp] theorem refuse_outAddr (r : Unaccepted) (s : State) : (s.refuse r).outAddr = s.outAddr := rfl
@[simp] theorem refuse_outN (r : Unaccepted) (s : State) : (s.refuse r).outN = s.outN := rfl
@[simp] theorem refuse_outData (r : Unaccepted) (s : State) : (s.refuse r).outData = s.outData := rfl
@[simp] theorem refuse_outCtrl (r : Unaccepted) (s : State) : (s.refuse r).outCtrl = s.outCtrl := rfl
@[simp] theorem refuse_outCrc (r : Unaccepted) (s : State) : (s.refuse r).outCrc = s.outCrc := rfl
@[simp] theorem refuse_frameReady (r : Unaccepted) (s : State) : (s.refuse r).frameReady = s.frameReady := rfl
@[simp] theorem refuse_rxError (r : Unaccepted) (s : State) : (s.refuse r).rxError = s.rxError := rfl
@[simp] theorem refuse_rxCause (r : Unaccepted) (s : State) : (s.refuse r).rxCause = s.rxCause := rfl
@[simp] theorem refuse_txBuf (r : Unaccepted) (s : State) : (s.refuse r).txBuf = s.txBuf := rfl
@[simp] theorem refuse_txLen (r : Unaccepted) (s : State) : (s.refuse r).txLen = s.txLen := rfl
@[simp] theorem refuse_txPos (r : Unaccepted) (s : State) : (s.refuse r).txPos = s.txPos := rfl
@[simp] theorem refuse_txBusy (r : Unaccepted) (s : State) : (s.refuse r).txBusy = s.txBusy := rfl
@[simp] theorem refuse_answer (r : Unaccepted) (s : State) : (s.refuse r).answer = .refuses r := rfl
@[simp] theorem refuse_input (r : Unaccepted) (s : State) : (s.refuse r).input = s.input := rfl
@[simp] theorem refuse_echo (r : Unaccepted) (s : State) : (s.refuse r).echo = s.echo := rfl
@[simp] theorem refuse_freeCount (r : Unaccepted) (s : State) : (s.refuse r).freeCount = s.freeCount := rfl

/-! ### `State.compute` -/

@[simp] theorem compute_rxState (v : CodecValue) (s : State) : (s.compute v).rxState = s.rxState := rfl
@[simp] theorem compute_rxIdx (v : CodecValue) (s : State) : (s.compute v).rxIdx = s.rxIdx := rfl
@[simp] theorem compute_rxAddr (v : CodecValue) (s : State) : (s.compute v).rxAddr = s.rxAddr := rfl
@[simp] theorem compute_rxCtrl (v : CodecValue) (s : State) : (s.compute v).rxCtrl = s.rxCtrl := rfl
@[simp] theorem compute_rxData (v : CodecValue) (s : State) : (s.compute v).rxData = s.rxData := rfl
@[simp] theorem compute_rxCrc (v : CodecValue) (s : State) : (s.compute v).rxCrc = s.rxCrc := rfl
@[simp] theorem compute_outDir (v : CodecValue) (s : State) : (s.compute v).outDir = s.outDir := rfl
@[simp] theorem compute_outAddr (v : CodecValue) (s : State) : (s.compute v).outAddr = s.outAddr := rfl
@[simp] theorem compute_outN (v : CodecValue) (s : State) : (s.compute v).outN = s.outN := rfl
@[simp] theorem compute_outData (v : CodecValue) (s : State) : (s.compute v).outData = s.outData := rfl
@[simp] theorem compute_outCtrl (v : CodecValue) (s : State) : (s.compute v).outCtrl = s.outCtrl := rfl
@[simp] theorem compute_outCrc (v : CodecValue) (s : State) : (s.compute v).outCrc = s.outCrc := rfl
@[simp] theorem compute_frameReady (v : CodecValue) (s : State) : (s.compute v).frameReady = s.frameReady := rfl
@[simp] theorem compute_rxError (v : CodecValue) (s : State) : (s.compute v).rxError = s.rxError := rfl
@[simp] theorem compute_rxCause (v : CodecValue) (s : State) : (s.compute v).rxCause = s.rxCause := rfl
@[simp] theorem compute_txBuf (v : CodecValue) (s : State) : (s.compute v).txBuf = s.txBuf := rfl
@[simp] theorem compute_txLen (v : CodecValue) (s : State) : (s.compute v).txLen = s.txLen := rfl
@[simp] theorem compute_txPos (v : CodecValue) (s : State) : (s.compute v).txPos = s.txPos := rfl
@[simp] theorem compute_txBusy (v : CodecValue) (s : State) : (s.compute v).txBusy = s.txBusy := rfl
@[simp] theorem compute_answer (v : CodecValue) (s : State) : (s.compute v).answer = .computes v := rfl
@[simp] theorem compute_input (v : CodecValue) (s : State) : (s.compute v).input = s.input := rfl
@[simp] theorem compute_echo (v : CodecValue) (s : State) : (s.compute v).echo = s.echo := rfl
@[simp] theorem compute_freeCount (v : CodecValue) (s : State) : (s.compute v).freeCount = s.freeCount := rfl

/-! ### `State.goTo` -/

@[simp] theorem goTo_rxState (st : RxState) (s : State) : (s.goTo st).rxState = st := rfl
@[simp] theorem goTo_rxIdx (st : RxState) (s : State) : (s.goTo st).rxIdx = s.rxIdx := rfl
@[simp] theorem goTo_rxAddr (st : RxState) (s : State) : (s.goTo st).rxAddr = s.rxAddr := rfl
@[simp] theorem goTo_rxCtrl (st : RxState) (s : State) : (s.goTo st).rxCtrl = s.rxCtrl := rfl
@[simp] theorem goTo_rxData (st : RxState) (s : State) : (s.goTo st).rxData = s.rxData := rfl
@[simp] theorem goTo_rxCrc (st : RxState) (s : State) : (s.goTo st).rxCrc = s.rxCrc := rfl
@[simp] theorem goTo_outDir (st : RxState) (s : State) : (s.goTo st).outDir = s.outDir := rfl
@[simp] theorem goTo_outAddr (st : RxState) (s : State) : (s.goTo st).outAddr = s.outAddr := rfl
@[simp] theorem goTo_outN (st : RxState) (s : State) : (s.goTo st).outN = s.outN := rfl
@[simp] theorem goTo_outData (st : RxState) (s : State) : (s.goTo st).outData = s.outData := rfl
@[simp] theorem goTo_outCtrl (st : RxState) (s : State) : (s.goTo st).outCtrl = s.outCtrl := rfl
@[simp] theorem goTo_outCrc (st : RxState) (s : State) : (s.goTo st).outCrc = s.outCrc := rfl
@[simp] theorem goTo_frameReady (st : RxState) (s : State) : (s.goTo st).frameReady = s.frameReady := rfl
@[simp] theorem goTo_rxError (st : RxState) (s : State) : (s.goTo st).rxError = s.rxError := rfl
@[simp] theorem goTo_rxCause (st : RxState) (s : State) : (s.goTo st).rxCause = s.rxCause := rfl
@[simp] theorem goTo_txBuf (st : RxState) (s : State) : (s.goTo st).txBuf = s.txBuf := rfl
@[simp] theorem goTo_txLen (st : RxState) (s : State) : (s.goTo st).txLen = s.txLen := rfl
@[simp] theorem goTo_txPos (st : RxState) (s : State) : (s.goTo st).txPos = s.txPos := rfl
@[simp] theorem goTo_txBusy (st : RxState) (s : State) : (s.goTo st).txBusy = s.txBusy := rfl
@[simp] theorem goTo_answer (st : RxState) (s : State) : (s.goTo st).answer = .silent := rfl
@[simp] theorem goTo_input (st : RxState) (s : State) : (s.goTo st).input = s.input := rfl
@[simp] theorem goTo_echo (st : RxState) (s : State) : (s.goTo st).echo = s.echo := rfl
@[simp] theorem goTo_freeCount (st : RxState) (s : State) : (s.goTo st).freeCount = s.freeCount := rfl

/-! ### `State.flagDiscard` -/

@[simp] theorem flagDiscard_rxState (c : Cause) (s : State) : (s.flagDiscard c).rxState = s.rxState := rfl
@[simp] theorem flagDiscard_rxIdx (c : Cause) (s : State) : (s.flagDiscard c).rxIdx = s.rxIdx := rfl
@[simp] theorem flagDiscard_rxAddr (c : Cause) (s : State) : (s.flagDiscard c).rxAddr = s.rxAddr := rfl
@[simp] theorem flagDiscard_rxCtrl (c : Cause) (s : State) : (s.flagDiscard c).rxCtrl = s.rxCtrl := rfl
@[simp] theorem flagDiscard_rxData (c : Cause) (s : State) : (s.flagDiscard c).rxData = s.rxData := rfl
@[simp] theorem flagDiscard_rxCrc (c : Cause) (s : State) : (s.flagDiscard c).rxCrc = s.rxCrc := rfl
@[simp] theorem flagDiscard_outDir (c : Cause) (s : State) : (s.flagDiscard c).outDir = s.outDir := rfl
@[simp] theorem flagDiscard_outAddr (c : Cause) (s : State) : (s.flagDiscard c).outAddr = s.outAddr := rfl
@[simp] theorem flagDiscard_outN (c : Cause) (s : State) : (s.flagDiscard c).outN = s.outN := rfl
@[simp] theorem flagDiscard_outData (c : Cause) (s : State) : (s.flagDiscard c).outData = s.outData := rfl
@[simp] theorem flagDiscard_outCtrl (c : Cause) (s : State) : (s.flagDiscard c).outCtrl = s.outCtrl := rfl
@[simp] theorem flagDiscard_outCrc (c : Cause) (s : State) : (s.flagDiscard c).outCrc = s.outCrc := rfl
@[simp] theorem flagDiscard_frameReady (c : Cause) (s : State) : (s.flagDiscard c).frameReady = s.frameReady := rfl
@[simp] theorem flagDiscard_rxError (c : Cause) (s : State) : (s.flagDiscard c).rxError = true := rfl
@[simp] theorem flagDiscard_rxCause (c : Cause) (s : State) : (s.flagDiscard c).rxCause = c := rfl
@[simp] theorem flagDiscard_txBuf (c : Cause) (s : State) : (s.flagDiscard c).txBuf = s.txBuf := rfl
@[simp] theorem flagDiscard_txLen (c : Cause) (s : State) : (s.flagDiscard c).txLen = s.txLen := rfl
@[simp] theorem flagDiscard_txPos (c : Cause) (s : State) : (s.flagDiscard c).txPos = s.txPos := rfl
@[simp] theorem flagDiscard_txBusy (c : Cause) (s : State) : (s.flagDiscard c).txBusy = s.txBusy := rfl
@[simp] theorem flagDiscard_answer (c : Cause) (s : State) : (s.flagDiscard c).answer = s.answer := rfl
@[simp] theorem flagDiscard_input (c : Cause) (s : State) : (s.flagDiscard c).input = s.input := rfl
@[simp] theorem flagDiscard_echo (c : Cause) (s : State) : (s.flagDiscard c).echo = s.echo := rfl
@[simp] theorem flagDiscard_freeCount (c : Cause) (s : State) : (s.flagDiscard c).freeCount = s.freeCount := rfl

/-! ### `State.clearError` -/

@[simp] theorem clearError_rxState (s : State) : s.clearError.rxState = s.rxState := rfl
@[simp] theorem clearError_rxIdx (s : State) : s.clearError.rxIdx = s.rxIdx := rfl
@[simp] theorem clearError_rxAddr (s : State) : s.clearError.rxAddr = s.rxAddr := rfl
@[simp] theorem clearError_rxCtrl (s : State) : s.clearError.rxCtrl = s.rxCtrl := rfl
@[simp] theorem clearError_rxData (s : State) : s.clearError.rxData = s.rxData := rfl
@[simp] theorem clearError_rxCrc (s : State) : s.clearError.rxCrc = s.rxCrc := rfl
@[simp] theorem clearError_outDir (s : State) : s.clearError.outDir = s.outDir := rfl
@[simp] theorem clearError_outAddr (s : State) : s.clearError.outAddr = s.outAddr := rfl
@[simp] theorem clearError_outN (s : State) : s.clearError.outN = s.outN := rfl
@[simp] theorem clearError_outData (s : State) : s.clearError.outData = s.outData := rfl
@[simp] theorem clearError_outCtrl (s : State) : s.clearError.outCtrl = s.outCtrl := rfl
@[simp] theorem clearError_outCrc (s : State) : s.clearError.outCrc = s.outCrc := rfl
@[simp] theorem clearError_frameReady (s : State) : s.clearError.frameReady = s.frameReady := rfl
@[simp] theorem clearError_rxError (s : State) : s.clearError.rxError = false := rfl
@[simp] theorem clearError_rxCause (s : State) : s.clearError.rxCause = .none := rfl
@[simp] theorem clearError_txBuf (s : State) : s.clearError.txBuf = s.txBuf := rfl
@[simp] theorem clearError_txLen (s : State) : s.clearError.txLen = s.txLen := rfl
@[simp] theorem clearError_txPos (s : State) : s.clearError.txPos = s.txPos := rfl
@[simp] theorem clearError_txBusy (s : State) : s.clearError.txBusy = s.txBusy := rfl
@[simp] theorem clearError_answer (s : State) : s.clearError.answer = s.answer := rfl
@[simp] theorem clearError_input (s : State) : s.clearError.input = s.input := rfl
@[simp] theorem clearError_echo (s : State) : s.clearError.echo = s.echo := rfl
@[simp] theorem clearError_freeCount (s : State) : s.clearError.freeCount = s.freeCount := rfl

/-! ### `State.clearReady` -/

@[simp] theorem clearReady_rxState (s : State) : s.clearReady.rxState = s.rxState := rfl
@[simp] theorem clearReady_rxIdx (s : State) : s.clearReady.rxIdx = s.rxIdx := rfl
@[simp] theorem clearReady_rxAddr (s : State) : s.clearReady.rxAddr = s.rxAddr := rfl
@[simp] theorem clearReady_rxCtrl (s : State) : s.clearReady.rxCtrl = s.rxCtrl := rfl
@[simp] theorem clearReady_rxData (s : State) : s.clearReady.rxData = s.rxData := rfl
@[simp] theorem clearReady_rxCrc (s : State) : s.clearReady.rxCrc = s.rxCrc := rfl
@[simp] theorem clearReady_outDir (s : State) : s.clearReady.outDir = s.outDir := rfl
@[simp] theorem clearReady_outAddr (s : State) : s.clearReady.outAddr = s.outAddr := rfl
@[simp] theorem clearReady_outN (s : State) : s.clearReady.outN = s.outN := rfl
@[simp] theorem clearReady_outData (s : State) : s.clearReady.outData = s.outData := rfl
@[simp] theorem clearReady_outCtrl (s : State) : s.clearReady.outCtrl = s.outCtrl := rfl
@[simp] theorem clearReady_outCrc (s : State) : s.clearReady.outCrc = s.outCrc := rfl
@[simp] theorem clearReady_frameReady (s : State) : s.clearReady.frameReady = false := rfl
@[simp] theorem clearReady_rxError (s : State) : s.clearReady.rxError = s.rxError := rfl
@[simp] theorem clearReady_rxCause (s : State) : s.clearReady.rxCause = s.rxCause := rfl
@[simp] theorem clearReady_txBuf (s : State) : s.clearReady.txBuf = s.txBuf := rfl
@[simp] theorem clearReady_txLen (s : State) : s.clearReady.txLen = s.txLen := rfl
@[simp] theorem clearReady_txPos (s : State) : s.clearReady.txPos = s.txPos := rfl
@[simp] theorem clearReady_txBusy (s : State) : s.clearReady.txBusy = s.txBusy := rfl
@[simp] theorem clearReady_answer (s : State) : s.clearReady.answer = s.answer := rfl
@[simp] theorem clearReady_input (s : State) : s.clearReady.input = s.input := rfl
@[simp] theorem clearReady_echo (s : State) : s.clearReady.echo = s.echo := rfl
@[simp] theorem clearReady_freeCount (s : State) : s.clearReady.freeCount = s.freeCount := rfl

/-! ### `State.raise` -/

@[simp] theorem raise_rxState (c : Cause) (s : State) : (s.raise c).rxState = .waitStart := rfl
@[simp] theorem raise_rxIdx (c : Cause) (s : State) : (s.raise c).rxIdx = s.rxIdx := rfl
@[simp] theorem raise_rxAddr (c : Cause) (s : State) : (s.raise c).rxAddr = s.rxAddr := rfl
@[simp] theorem raise_rxCtrl (c : Cause) (s : State) : (s.raise c).rxCtrl = s.rxCtrl := rfl
@[simp] theorem raise_rxData (c : Cause) (s : State) : (s.raise c).rxData = s.rxData := rfl
@[simp] theorem raise_rxCrc (c : Cause) (s : State) : (s.raise c).rxCrc = s.rxCrc := rfl
@[simp] theorem raise_outDir (c : Cause) (s : State) : (s.raise c).outDir = s.outDir := rfl
@[simp] theorem raise_outAddr (c : Cause) (s : State) : (s.raise c).outAddr = s.outAddr := rfl
@[simp] theorem raise_outN (c : Cause) (s : State) : (s.raise c).outN = s.outN := rfl
@[simp] theorem raise_outData (c : Cause) (s : State) : (s.raise c).outData = s.outData := rfl
@[simp] theorem raise_outCtrl (c : Cause) (s : State) : (s.raise c).outCtrl = s.outCtrl := rfl
@[simp] theorem raise_outCrc (c : Cause) (s : State) : (s.raise c).outCrc = s.outCrc := rfl
@[simp] theorem raise_frameReady (c : Cause) (s : State) : (s.raise c).frameReady = s.frameReady := rfl
@[simp] theorem raise_rxError (c : Cause) (s : State) : (s.raise c).rxError = true := rfl
@[simp] theorem raise_rxCause (c : Cause) (s : State) : (s.raise c).rxCause = c := rfl
@[simp] theorem raise_txBuf (c : Cause) (s : State) : (s.raise c).txBuf = s.txBuf := rfl
@[simp] theorem raise_txLen (c : Cause) (s : State) : (s.raise c).txLen = s.txLen := rfl
@[simp] theorem raise_txPos (c : Cause) (s : State) : (s.raise c).txPos = s.txPos := rfl
@[simp] theorem raise_txBusy (c : Cause) (s : State) : (s.raise c).txBusy = s.txBusy := rfl
@[simp] theorem raise_answer (c : Cause) (s : State) : (s.raise c).answer = .emits (.discarded c) := rfl
@[simp] theorem raise_input (c : Cause) (s : State) : (s.raise c).input = s.input := rfl
@[simp] theorem raise_echo (c : Cause) (s : State) : (s.raise c).echo = s.echo := rfl
@[simp] theorem raise_freeCount (c : Cause) (s : State) : (s.raise c).freeCount = s.freeCount := rfl

/-! ### `State.captureAddress` -/

@[simp] theorem captureAddress_rxState (b : Byte) (s : State) : (s.captureAddress .addrFirst b).rxState = .readControl := rfl
@[simp] theorem captureAddress_rxIdx (b : Byte) (s : State) : (s.captureAddress .addrFirst b).rxIdx = s.rxIdx := rfl
@[simp] theorem captureAddress_rxAddr (b : Byte) (s : State) : (s.captureAddress .addrFirst b).rxAddr = b := rfl
@[simp] theorem captureAddress_rxCtrl (b : Byte) (s : State) : (s.captureAddress .addrFirst b).rxCtrl = s.rxCtrl := rfl
@[simp] theorem captureAddress_rxData (b : Byte) (s : State) : (s.captureAddress .addrFirst b).rxData = s.rxData := rfl
@[simp] theorem captureAddress_rxCrc (b : Byte) (s : State) : (s.captureAddress .addrFirst b).rxCrc = s.rxCrc := rfl
@[simp] theorem captureAddress_outDir (b : Byte) (s : State) : (s.captureAddress .addrFirst b).outDir = s.outDir := rfl
@[simp] theorem captureAddress_outAddr (b : Byte) (s : State) : (s.captureAddress .addrFirst b).outAddr = s.outAddr := rfl
@[simp] theorem captureAddress_outN (b : Byte) (s : State) : (s.captureAddress .addrFirst b).outN = s.outN := rfl
@[simp] theorem captureAddress_outData (b : Byte) (s : State) : (s.captureAddress .addrFirst b).outData = s.outData := rfl
@[simp] theorem captureAddress_outCtrl (b : Byte) (s : State) : (s.captureAddress .addrFirst b).outCtrl = s.outCtrl := rfl
@[simp] theorem captureAddress_outCrc (b : Byte) (s : State) : (s.captureAddress .addrFirst b).outCrc = s.outCrc := rfl
@[simp] theorem captureAddress_frameReady (b : Byte) (s : State) : (s.captureAddress .addrFirst b).frameReady = s.frameReady := rfl
@[simp] theorem captureAddress_rxError (b : Byte) (s : State) : (s.captureAddress .addrFirst b).rxError = s.rxError := rfl
@[simp] theorem captureAddress_rxCause (b : Byte) (s : State) : (s.captureAddress .addrFirst b).rxCause = s.rxCause := rfl
@[simp] theorem captureAddress_txBuf (b : Byte) (s : State) : (s.captureAddress .addrFirst b).txBuf = s.txBuf := rfl
@[simp] theorem captureAddress_txLen (b : Byte) (s : State) : (s.captureAddress .addrFirst b).txLen = s.txLen := rfl
@[simp] theorem captureAddress_txPos (b : Byte) (s : State) : (s.captureAddress .addrFirst b).txPos = s.txPos := rfl
@[simp] theorem captureAddress_txBusy (b : Byte) (s : State) : (s.captureAddress .addrFirst b).txBusy = s.txBusy := rfl
@[simp] theorem captureAddress_answer (b : Byte) (s : State) : (s.captureAddress .addrFirst b).answer = .silent := rfl
@[simp] theorem captureAddress_input (b : Byte) (s : State) : (s.captureAddress .addrFirst b).input = s.input := rfl
@[simp] theorem captureAddress_echo (b : Byte) (s : State) : (s.captureAddress .addrFirst b).echo = s.echo := rfl
@[simp] theorem captureAddress_freeCount (b : Byte) (s : State) : (s.captureAddress .addrFirst b).freeCount = s.freeCount := rfl

/-! ### `State.captureControl` -/

@[simp] theorem captureControl_rxState (b : Byte) (s : State) : (s.captureControl .addrFirst b).rxState = afterHeader b := rfl
@[simp] theorem captureControl_rxIdx (b : Byte) (s : State) : (s.captureControl .addrFirst b).rxIdx = 0 := rfl
@[simp] theorem captureControl_rxAddr (b : Byte) (s : State) : (s.captureControl .addrFirst b).rxAddr = s.rxAddr := rfl
@[simp] theorem captureControl_rxCtrl (b : Byte) (s : State) : (s.captureControl .addrFirst b).rxCtrl = b := rfl
@[simp] theorem captureControl_rxData (b : Byte) (s : State) : (s.captureControl .addrFirst b).rxData = s.rxData := rfl
@[simp] theorem captureControl_rxCrc (b : Byte) (s : State) : (s.captureControl .addrFirst b).rxCrc = s.rxCrc := rfl
@[simp] theorem captureControl_outDir (b : Byte) (s : State) : (s.captureControl .addrFirst b).outDir = s.outDir := rfl
@[simp] theorem captureControl_outAddr (b : Byte) (s : State) : (s.captureControl .addrFirst b).outAddr = s.outAddr := rfl
@[simp] theorem captureControl_outN (b : Byte) (s : State) : (s.captureControl .addrFirst b).outN = s.outN := rfl
@[simp] theorem captureControl_outData (b : Byte) (s : State) : (s.captureControl .addrFirst b).outData = s.outData := rfl
@[simp] theorem captureControl_outCtrl (b : Byte) (s : State) : (s.captureControl .addrFirst b).outCtrl = s.outCtrl := rfl
@[simp] theorem captureControl_outCrc (b : Byte) (s : State) : (s.captureControl .addrFirst b).outCrc = s.outCrc := rfl
@[simp] theorem captureControl_frameReady (b : Byte) (s : State) : (s.captureControl .addrFirst b).frameReady = s.frameReady := rfl
@[simp] theorem captureControl_rxError (b : Byte) (s : State) : (s.captureControl .addrFirst b).rxError = s.rxError := rfl
@[simp] theorem captureControl_rxCause (b : Byte) (s : State) : (s.captureControl .addrFirst b).rxCause = s.rxCause := rfl
@[simp] theorem captureControl_txBuf (b : Byte) (s : State) : (s.captureControl .addrFirst b).txBuf = s.txBuf := rfl
@[simp] theorem captureControl_txLen (b : Byte) (s : State) : (s.captureControl .addrFirst b).txLen = s.txLen := rfl
@[simp] theorem captureControl_txPos (b : Byte) (s : State) : (s.captureControl .addrFirst b).txPos = s.txPos := rfl
@[simp] theorem captureControl_txBusy (b : Byte) (s : State) : (s.captureControl .addrFirst b).txBusy = s.txBusy := rfl
@[simp] theorem captureControl_answer (b : Byte) (s : State) : (s.captureControl .addrFirst b).answer = .silent := rfl
@[simp] theorem captureControl_input (b : Byte) (s : State) : (s.captureControl .addrFirst b).input = s.input := rfl
@[simp] theorem captureControl_echo (b : Byte) (s : State) : (s.captureControl .addrFirst b).echo = s.echo := rfl
@[simp] theorem captureControl_freeCount (b : Byte) (s : State) : (s.captureControl .addrFirst b).freeCount = s.freeCount := rfl

/-! ### `State.captureChecksum` -/

@[simp] theorem captureChecksum_rxState (b : Byte) (s : State) : (s.captureChecksum b).rxState = .expectStop := rfl
@[simp] theorem captureChecksum_rxIdx (b : Byte) (s : State) : (s.captureChecksum b).rxIdx = s.rxIdx := rfl
@[simp] theorem captureChecksum_rxAddr (b : Byte) (s : State) : (s.captureChecksum b).rxAddr = s.rxAddr := rfl
@[simp] theorem captureChecksum_rxCtrl (b : Byte) (s : State) : (s.captureChecksum b).rxCtrl = s.rxCtrl := rfl
@[simp] theorem captureChecksum_rxData (b : Byte) (s : State) : (s.captureChecksum b).rxData = s.rxData := rfl
@[simp] theorem captureChecksum_rxCrc (b : Byte) (s : State) : (s.captureChecksum b).rxCrc = b := rfl
@[simp] theorem captureChecksum_outDir (b : Byte) (s : State) : (s.captureChecksum b).outDir = s.outDir := rfl
@[simp] theorem captureChecksum_outAddr (b : Byte) (s : State) : (s.captureChecksum b).outAddr = s.outAddr := rfl
@[simp] theorem captureChecksum_outN (b : Byte) (s : State) : (s.captureChecksum b).outN = s.outN := rfl
@[simp] theorem captureChecksum_outData (b : Byte) (s : State) : (s.captureChecksum b).outData = s.outData := rfl
@[simp] theorem captureChecksum_outCtrl (b : Byte) (s : State) : (s.captureChecksum b).outCtrl = s.outCtrl := rfl
@[simp] theorem captureChecksum_outCrc (b : Byte) (s : State) : (s.captureChecksum b).outCrc = s.outCrc := rfl
@[simp] theorem captureChecksum_frameReady (b : Byte) (s : State) : (s.captureChecksum b).frameReady = s.frameReady := rfl
@[simp] theorem captureChecksum_rxError (b : Byte) (s : State) : (s.captureChecksum b).rxError = s.rxError := rfl
@[simp] theorem captureChecksum_rxCause (b : Byte) (s : State) : (s.captureChecksum b).rxCause = s.rxCause := rfl
@[simp] theorem captureChecksum_txBuf (b : Byte) (s : State) : (s.captureChecksum b).txBuf = s.txBuf := rfl
@[simp] theorem captureChecksum_txLen (b : Byte) (s : State) : (s.captureChecksum b).txLen = s.txLen := rfl
@[simp] theorem captureChecksum_txPos (b : Byte) (s : State) : (s.captureChecksum b).txPos = s.txPos := rfl
@[simp] theorem captureChecksum_txBusy (b : Byte) (s : State) : (s.captureChecksum b).txBusy = s.txBusy := rfl
@[simp] theorem captureChecksum_answer (b : Byte) (s : State) : (s.captureChecksum b).answer = .silent := rfl
@[simp] theorem captureChecksum_input (b : Byte) (s : State) : (s.captureChecksum b).input = s.input := rfl
@[simp] theorem captureChecksum_echo (b : Byte) (s : State) : (s.captureChecksum b).echo = s.echo := rfl
@[simp] theorem captureChecksum_freeCount (b : Byte) (s : State) : (s.captureChecksum b).freeCount = s.freeCount := rfl

/-! ### `State.publish` -/

@[simp] theorem publish_rxState (f : Frame) (s : State) : (s.publish f).rxState = .waitStart := rfl
@[simp] theorem publish_rxIdx (f : Frame) (s : State) : (s.publish f).rxIdx = s.rxIdx := rfl
@[simp] theorem publish_rxAddr (f : Frame) (s : State) : (s.publish f).rxAddr = s.rxAddr := rfl
@[simp] theorem publish_rxCtrl (f : Frame) (s : State) : (s.publish f).rxCtrl = s.rxCtrl := rfl
@[simp] theorem publish_rxData (f : Frame) (s : State) : (s.publish f).rxData = s.rxData := rfl
@[simp] theorem publish_rxCrc (f : Frame) (s : State) : (s.publish f).rxCrc = s.rxCrc := rfl
@[simp] theorem publish_outDir (f : Frame) (s : State) : (s.publish f).outDir = f.dir := rfl
@[simp] theorem publish_outAddr (f : Frame) (s : State) : (s.publish f).outAddr = f.addr := rfl
@[simp] theorem publish_outN (f : Frame) (s : State) : (s.publish f).outN = ctlCount s.rxCtrl := rfl
@[simp] theorem publish_outData (f : Frame) (s : State) : (s.publish f).outData = Bytes3.ofList f.data s.freeCount := rfl
@[simp] theorem publish_outCtrl (f : Frame) (s : State) : (s.publish f).outCtrl = s.rxCtrl := rfl
@[simp] theorem publish_outCrc (f : Frame) (s : State) : (s.publish f).outCrc = s.rxCrc := rfl
@[simp] theorem publish_frameReady (f : Frame) (s : State) : (s.publish f).frameReady = true := rfl
@[simp] theorem publish_rxError (f : Frame) (s : State) : (s.publish f).rxError = s.rxError := rfl
@[simp] theorem publish_rxCause (f : Frame) (s : State) : (s.publish f).rxCause = s.rxCause := rfl
@[simp] theorem publish_txBuf (f : Frame) (s : State) : (s.publish f).txBuf = s.txBuf := rfl
@[simp] theorem publish_txLen (f : Frame) (s : State) : (s.publish f).txLen = s.txLen := rfl
@[simp] theorem publish_txPos (f : Frame) (s : State) : (s.publish f).txPos = s.txPos := rfl
@[simp] theorem publish_txBusy (f : Frame) (s : State) : (s.publish f).txBusy = s.txBusy := rfl
@[simp] theorem publish_answer (f : Frame) (s : State) : (s.publish f).answer = .emits (.published f) := rfl
@[simp] theorem publish_input (f : Frame) (s : State) : (s.publish f).input = s.input := rfl
@[simp] theorem publish_echo (f : Frame) (s : State) : (s.publish f).echo = s.echo := rfl
@[simp] theorem publish_freeCount (f : Frame) (s : State) : (s.publish f).freeCount = s.freeCount + 3 := rfl

/-! ### `State.loadTx` -/

@[simp] theorem loadTx_rxState (l : List Byte) (s : State) : (s.loadTx l).rxState = s.rxState := rfl
@[simp] theorem loadTx_rxIdx (l : List Byte) (s : State) : (s.loadTx l).rxIdx = s.rxIdx := rfl
@[simp] theorem loadTx_rxAddr (l : List Byte) (s : State) : (s.loadTx l).rxAddr = s.rxAddr := rfl
@[simp] theorem loadTx_rxCtrl (l : List Byte) (s : State) : (s.loadTx l).rxCtrl = s.rxCtrl := rfl
@[simp] theorem loadTx_rxData (l : List Byte) (s : State) : (s.loadTx l).rxData = s.rxData := rfl
@[simp] theorem loadTx_rxCrc (l : List Byte) (s : State) : (s.loadTx l).rxCrc = s.rxCrc := rfl
@[simp] theorem loadTx_outDir (l : List Byte) (s : State) : (s.loadTx l).outDir = s.outDir := rfl
@[simp] theorem loadTx_outAddr (l : List Byte) (s : State) : (s.loadTx l).outAddr = s.outAddr := rfl
@[simp] theorem loadTx_outN (l : List Byte) (s : State) : (s.loadTx l).outN = s.outN := rfl
@[simp] theorem loadTx_outData (l : List Byte) (s : State) : (s.loadTx l).outData = s.outData := rfl
@[simp] theorem loadTx_outCtrl (l : List Byte) (s : State) : (s.loadTx l).outCtrl = s.outCtrl := rfl
@[simp] theorem loadTx_outCrc (l : List Byte) (s : State) : (s.loadTx l).outCrc = s.outCrc := rfl
@[simp] theorem loadTx_frameReady (l : List Byte) (s : State) : (s.loadTx l).frameReady = s.frameReady := rfl
@[simp] theorem loadTx_rxError (l : List Byte) (s : State) : (s.loadTx l).rxError = s.rxError := rfl
@[simp] theorem loadTx_rxCause (l : List Byte) (s : State) : (s.loadTx l).rxCause = s.rxCause := rfl
@[simp] theorem loadTx_txBuf (l : List Byte) (s : State) : (s.loadTx l).txBuf = Bytes8.ofList l s.freeCount := rfl
@[simp] theorem loadTx_txLen (l : List Byte) (s : State) : (s.loadTx l).txLen = BitVec.ofNat 4 l.length := rfl
@[simp] theorem loadTx_txPos (l : List Byte) (s : State) : (s.loadTx l).txPos = 0 := rfl
@[simp] theorem loadTx_txBusy (l : List Byte) (s : State) : (s.loadTx l).txBusy = true := rfl
@[simp] theorem loadTx_answer (l : List Byte) (s : State) : (s.loadTx l).answer = .silent := rfl
@[simp] theorem loadTx_input (l : List Byte) (s : State) : (s.loadTx l).input = s.input := rfl
@[simp] theorem loadTx_echo (l : List Byte) (s : State) : (s.loadTx l).echo = s.echo := rfl
@[simp] theorem loadTx_freeCount (l : List Byte) (s : State) : (s.loadTx l).freeCount = s.freeCount + 8 := rfl

/-! ### `State.emitTx` -/

@[simp] theorem emitTx_rxState (b : Byte) (s : State) : (s.emitTx b).rxState = s.rxState := rfl
@[simp] theorem emitTx_rxIdx (b : Byte) (s : State) : (s.emitTx b).rxIdx = s.rxIdx := rfl
@[simp] theorem emitTx_rxAddr (b : Byte) (s : State) : (s.emitTx b).rxAddr = s.rxAddr := rfl
@[simp] theorem emitTx_rxCtrl (b : Byte) (s : State) : (s.emitTx b).rxCtrl = s.rxCtrl := rfl
@[simp] theorem emitTx_rxData (b : Byte) (s : State) : (s.emitTx b).rxData = s.rxData := rfl
@[simp] theorem emitTx_rxCrc (b : Byte) (s : State) : (s.emitTx b).rxCrc = s.rxCrc := rfl
@[simp] theorem emitTx_outDir (b : Byte) (s : State) : (s.emitTx b).outDir = s.outDir := rfl
@[simp] theorem emitTx_outAddr (b : Byte) (s : State) : (s.emitTx b).outAddr = s.outAddr := rfl
@[simp] theorem emitTx_outN (b : Byte) (s : State) : (s.emitTx b).outN = s.outN := rfl
@[simp] theorem emitTx_outData (b : Byte) (s : State) : (s.emitTx b).outData = s.outData := rfl
@[simp] theorem emitTx_outCtrl (b : Byte) (s : State) : (s.emitTx b).outCtrl = s.outCtrl := rfl
@[simp] theorem emitTx_outCrc (b : Byte) (s : State) : (s.emitTx b).outCrc = s.outCrc := rfl
@[simp] theorem emitTx_frameReady (b : Byte) (s : State) : (s.emitTx b).frameReady = s.frameReady := rfl
@[simp] theorem emitTx_rxError (b : Byte) (s : State) : (s.emitTx b).rxError = s.rxError := rfl
@[simp] theorem emitTx_rxCause (b : Byte) (s : State) : (s.emitTx b).rxCause = s.rxCause := rfl
@[simp] theorem emitTx_txBuf (b : Byte) (s : State) : (s.emitTx b).txBuf = s.txBuf := rfl
@[simp] theorem emitTx_txLen (b : Byte) (s : State) : (s.emitTx b).txLen = s.txLen := rfl
@[simp] theorem emitTx_txPos (b : Byte) (s : State) : (s.emitTx b).txPos = s.txPos + 1 := rfl
@[simp] theorem emitTx_txBusy (b : Byte) (s : State) : (s.emitTx b).txBusy = (s.txPos + 1 != s.txLen) := rfl
@[simp] theorem emitTx_answer (b : Byte) (s : State) : (s.emitTx b).answer = .emits (.txByte b) := rfl
@[simp] theorem emitTx_input (b : Byte) (s : State) : (s.emitTx b).input = s.input := rfl
@[simp] theorem emitTx_echo (b : Byte) (s : State) : (s.emitTx b).echo = s.echo := rfl
@[simp] theorem emitTx_freeCount (b : Byte) (s : State) : (s.emitTx b).freeCount = s.freeCount := rfl

/-! ### `State.resetBlock` -/

@[simp] theorem resetBlock_rxState (s : State) : s.resetBlock.rxState = .waitStart := rfl
@[simp] theorem resetBlock_rxIdx (s : State) : s.resetBlock.rxIdx = 0 := rfl
@[simp] theorem resetBlock_frameReady (s : State) : s.resetBlock.frameReady = false := rfl
@[simp] theorem resetBlock_rxError (s : State) : s.resetBlock.rxError = false := rfl
@[simp] theorem resetBlock_rxCause (s : State) : s.resetBlock.rxCause = .none := rfl
@[simp] theorem resetBlock_txLen (s : State) : s.resetBlock.txLen = 0 := rfl
@[simp] theorem resetBlock_txPos (s : State) : s.resetBlock.txPos = 0 := rfl
@[simp] theorem resetBlock_txBusy (s : State) : s.resetBlock.txBusy = false := rfl
@[simp] theorem resetBlock_answer (s : State) : s.resetBlock.answer = .silent := rfl
@[simp] theorem resetBlock_input (s : State) : s.resetBlock.input = s.input := rfl
@[simp] theorem resetBlock_echo (s : State) : s.resetBlock.echo = s.echo := rfl
@[simp] theorem resetBlock_freeCount (s : State) : s.resetBlock.freeCount = s.freeCount + 22 := rfl

end Sys2Proof.Machine
end

