-- ==== Sys2Proof/Laws/Ops.lean ====
section
/-! SUPPORT. For each shared operation, once, all that it can do. -/

namespace Sys2Proof.Machine

/-- All that storing a data byte can do (41_receiver.md R136). -/
theorem captureData_cases {b : Byte} {s t : State} (h : s.captureData b = some t) :
    ∃ d, s.rxData.set s.rxIdx.toNat b = some d ∧
      ((s.rxIdx.toNat + 1 < (ctlCount s.rxCtrl).toNat ∧
          t = { s with rxData := d, rxIdx := s.rxIdx + 1, answer := .silent }) ∨
        (¬ s.rxIdx.toNat + 1 < (ctlCount s.rxCtrl).toNat ∧
          t = { s with rxData := d, rxState := .readCrc, answer := .silent })) := by
  unfold State.captureData at h
  split at h
  · rename_i d hd
    refine ⟨d, hd, ?_⟩
    cases h
    unfold State.advanceData State.moreData State.goTo
    by_cases hm : s.rxIdx.toNat + 1 < (ctlCount s.rxCtrl).toNat
    · exact .inl ⟨hm, by simp [hm]⟩
    · exact .inr ⟨hm, by simp [hm]⟩
  · cases h

/-- A data byte can be stored exactly while `rx_idx` is 0, 1 or 2. -/
theorem captureData_isSome (b : Byte) (s : State) : (s.captureData b).isSome = decide (s.rxIdx.toNat < 3) := by
  rw [← set_isSome s.rxData s.rxIdx.toNat b]
  unfold State.captureData
  split <;> simp_all

/-- All that `VALIDATE` can answer (40_codec.md R110). -/
theorem validateFrame_cases (c aw : Byte) (dw : Bytes3) (k : Byte) :
    (crcGen c aw (dw.first (ctlCount c)) = k ∧ validateFrame c aw dw k =
      .frame { dir := c.getLsbD 7, addr := unescape aw (c.getLsbD 6),
               data := unescapeAll (dw.first (ctlCount c)) [c.getLsbD 2, c.getLsbD 3, c.getLsbD 4],
               ctrl := c, crc := k }) ∨
    (crcGen c aw (dw.first (ctlCount c)) ≠ k ∧ validateFrame c aw dw k = .failed .checksum) := by
  by_cases h : crcGen c aw (dw.first (ctlCount c)) = k
  · exact .inl ⟨h, by simp [validateFrame, validateAs, frameChecksum, ctlUnpack, ctlFieldsOf, dataFlags, h]⟩
  · exact .inr ⟨h, by simp [validateFrame, validateAs, frameChecksum, ctlUnpack, ctlFieldsOf, h]⟩

/-- A validated frame carries its control and checksum bytes and as many data bytes as its count says. -/
theorem validateFrame_frame {c aw k : Byte} {dw : Bytes3} {f : Frame} (h : validateFrame c aw dw k = .frame f) :
    f.ctrl = c ∧ f.crc = k ∧ f.data.length = (ctlCount c).toNat := by
  obtain ⟨_, hv⟩ | ⟨_, hv⟩ := validateFrame_cases c aw dw k
  · rw [hv] at h
    cases h
    refine ⟨rfl, rfl, ?_⟩
    have := (ctlCount c).isLt
    simp [unescapeAll, List.length_zipWith]
    omega
  · rw [hv] at h
    cases h

/-- All that closing a candidate frame can do (41_receiver.md R138). -/
theorem closeFrame_cases (s : State) :
    (∃ f, s.validated = .frame f ∧ s.closeFrame = s.publish f) ∨
    (s.validated = .failed .checksum ∧ s.closeFrame = s.raise .checksum) := by
  unfold State.closeFrame
  obtain ⟨_, hv⟩ | ⟨_, hv⟩ := validateFrame_cases s.rxCtrl s.rxAddr s.rxData s.rxCrc
  · exact .inl ⟨_, hv, by rw [State.validated, hv]⟩
  · exact .inr ⟨hv, by rw [State.validated, hv]⟩

/-- All that listening to the own line can do (92_eei_decisions.md D22). -/
theorem hearOwn_cases (s : State) :
    s.hearOwn = s ∨ ∃ b, s.answer = .emits (.txByte b) ∧ Config.loopback = true ∧ s.hearOwn = { s with echo := some b } := by
  unfold State.hearOwn
  split
  · rename_i b hb
    split
    · exact .inr ⟨b, hb, ‹_›, rfl⟩
    · exact .inl rfl
  all_goals exact .inl rfl

/-- All that taking the next item can do (20_memory.md R62, 92_eei_decisions.md D22). -/
theorem fetch_cases {s t : State} {x : Input} (h : s.fetch = some (x, t)) :
    (∃ rest, s.echo = none ∧ s.input = x :: rest ∧ t = { s with input := rest }) ∨
    (∃ b k, s.echo = some b ∧ x = rxByteInput b ∧ t = { s with echo := none, freeCount := k }) ∨
    (∃ rest, s.echo.isSome ∧ s.input = x :: rest ∧ s.wouldEmit x = false ∧
      t = { s with input := rest, freeCount := s.freeCount + 1 }) := by
  unfold State.fetch at h
  split at h
  · cases h
  · rename_i he hi
    cases h
    exact .inl ⟨_, he, hi, rfl⟩
  · rename_i b he hi
    cases h
    exact .inr (.inl ⟨b, s.freeCount, he, rfl, rfl⟩)
  · rename_i b y rest he hi
    split at h
    · cases h
      exact .inr (.inl ⟨b, _, he, rfl, rfl⟩)
    · rename_i hd
      cases h
      refine .inr (.inr ⟨rest, by simp [he], hi, ?_, rfl⟩)
      simp at hd
      exact hd.1

/-- With no echo pending the outstanding items are taken in order. -/
theorem fetch_head {s : State} {x : Input} {rest : List Input} (he : s.echo = none) (hi : s.input = x :: rest) :
    s.fetch = some (x, { s with input := rest }) := by
  unfold State.fetch
  rw [he, hi]

/-- All that an item can do: its operation in the present state, then listening. -/
theorem takeItem_cases {x : Input} {s t : State} (h : takeItem x s = .next t) :
    ∃ i u, decode s.rxState x = .ok i ∧ exec i s = .next u ∧ t = u.hearOwn := by
  unfold takeItem deliver at h
  split at h
  · rename_i u hu
    split at hu
    · rename_i i hi
      cases h
      exact ⟨i, u, hi, hu, rfl⟩
    · cases hu
  · cases h
  · cases h

/-- A data byte is stored wherever `rx_data` has the element. -/
theorem captureData_exists (b : Byte) {s : State} (h : s.rxIdx.toNat < 3) : ∃ t, s.captureData b = some t := by
  have := captureData_isSome b s
  rw [decide_eq_true h] at this
  exact Option.isSome_iff_exists.mp this

/-- All that RX.DATA can do when it answers a next state. -/
theorem execRxData_cases {b : Byte} {s t : State} (h : execRxData b s = .next t) : s.captureData b = some t := by
  unfold execRxData at h
  split at h <;> cases h
  assumption

/-- All that TX.LOAD can do (42_transmitter.md R161). -/
theorem execTxLoad_cases {dir : Bool} {addr : Byte} {p : Payload} {s t : State} (h : execTxLoad dir addr p s = .next t) :
    (s.txBusy = true ∧ t = s.refuse .txBusy) ∨
    (s.txBusy = false ∧ t = s.loadTx (encodeFrame dir addr (payloadBytes p))) := by
  unfold execTxLoad at h
  split at h <;> cases h
  · exact .inl ⟨‹_›, rfl⟩
  · exact .inr ⟨by simp_all, rfl⟩

/-- All that TX.NEXT can do when it answers a next state (42_transmitter.md R162). -/
theorem execTxNext_cases {s t : State} (h : execTxNext s = .next t) :
    (s.txBusy = false ∧ t = s.answering .silent) ∨
    (∃ b, s.txBusy = true ∧ s.txBuf.get s.txPos.toNat = some b ∧ t = s.emitTx b) := by
  unfold execTxNext at h
  split at h
  · split at h <;> cases h
    exact .inr ⟨_, ‹_›, ‹_›, rfl⟩
  · cases h
    exact .inl ⟨by simp_all, rfl⟩

/-- All that HOST.READ can do (43_host_and_environment.md R178). -/
theorem execHostRead_cases {s t : State} (h : execHostRead s = .next t) :
    (s.frameReady = true ∧ t = s.answering (.emits (.readResult s.publishedFrame))) ∨
    (s.frameReady = false ∧ t = s.refuse .noFrame) := by
  unfold execHostRead at h
  split at h <;> cases h
  · exact .inl ⟨‹_›, rfl⟩
  · exact .inr ⟨by simp_all, rfl⟩

end Sys2Proof.Machine
end

