-- ==== Sys2Proof/Laws/PerInstr.lean ====
section
/-! SUPPORT. Statements made for every instruction, one lemma per constructor. -/

namespace Sys2Proof.Laws.RowFits

/-- The encoder's item has the format of the instruction's row in spec/opcode_table.json (30_encoding.md R83): an event
word fits the mask and the match of the row with the instruction's mnemonic, a byte format is one byte, a function is
called as itself. -/
def Statement (i : Instr) : Prop :=
  match encode i with
  | .event ev _ => ∃ r ∈ eventRows, r.mnemonic = i.mnemonic ∧ r.fits ev = true
  | .byte8 _ => i.mnemonic ∈ ["START", "STOP", "CTRLBYTE"]
  | .call j => j = i ∧ i.isFunc = true

/-- Every word of kind 0 fits a row for received bytes of any value. -/
theorem fits_anyByte (r : EventRow) (b : Byte) (hm : r.mask = 0xF00#12) (hp : r.pattern = 0x000#12) :
    r.fits (evWord 0x0 b) = true := by
  unfold EventRow.fits evWord
  rw [hm, hp]
  revert b
  decide

theorem rxStart : Statement .rxStart := ⟨⟨"RX.START", some .waitStart, 0xFFF, 0x096⟩, by decide, rfl, by decide⟩
theorem rxSkip (b : Byte) : Statement (.rxSkip b) :=
  ⟨⟨"RX.SKIP", some .waitStart, 0xF00, 0x000⟩, by decide, rfl, fits_anyByte _ b rfl rfl⟩
theorem rxAddr (b : Byte) : Statement (.rxAddr b) :=
  ⟨⟨"RX.ADDR", some .readAddress, 0xF00, 0x000⟩, by decide, rfl, fits_anyByte _ b rfl rfl⟩
theorem rxCtrl (b : Byte) : Statement (.rxCtrl b) :=
  ⟨⟨"RX.CTRL", some .readControl, 0xF00, 0x000⟩, by decide, rfl, fits_anyByte _ b rfl rfl⟩
theorem rxData (b : Byte) : Statement (.rxData b) :=
  ⟨⟨"RX.DATA", some .readData, 0xF00, 0x000⟩, by decide, rfl, fits_anyByte _ b rfl rfl⟩
theorem rxCrc (b : Byte) : Statement (.rxCrc b) :=
  ⟨⟨"RX.CRC", some .readCrc, 0xF00, 0x000⟩, by decide, rfl, fits_anyByte _ b rfl rfl⟩
theorem rxStop : Statement .rxStop := ⟨⟨"RX.STOP", some .expectStop, 0xFFF, 0x0A9⟩, by decide, rfl, by decide⟩
theorem rxBadstop (b : Byte) : Statement (.rxBadstop b) :=
  ⟨⟨"RX.BADSTOP", some .expectStop, 0xF00, 0x000⟩, by decide, rfl, fits_anyByte _ b rfl rfl⟩
theorem rxLineErr : Statement .rxLineErr := ⟨⟨"RX.LINE_ERR", none, 0xF00, 0x100⟩, by decide, rfl, by decide⟩
theorem hostAck : Statement .hostAck := ⟨⟨"HOST.ACK", none, 0xF00, 0x200⟩, by decide, rfl, by decide⟩
theorem hostClrerr : Statement .hostClrerr := ⟨⟨"HOST.CLRERR", none, 0xF00, 0x300⟩, by decide, rfl, by decide⟩
theorem hostRead : Statement .hostRead := ⟨⟨"HOST.READ", none, 0xF00, 0x400⟩, by decide, rfl, by decide⟩
theorem txLoad (dir : Bool) (addr : Byte) (p : Payload) : Statement (.txLoad dir addr p) :=
  ⟨⟨"TX.LOAD", none, 0xF00, 0x500⟩, by decide, rfl, by decide⟩
theorem txNext : Statement .txNext := ⟨⟨"TX.NEXT", none, 0xF00, 0x600⟩, by decide, rfl, by decide⟩
theorem evReserved7 : Statement .evReserved7 := ⟨⟨"EV.RESERVED_7", none, 0xF00, 0x700⟩, by decide, rfl, by decide⟩
theorem evReserved8B (k : BitVec 2) : Statement (.evReserved8B k) :=
  ⟨⟨"EV.RESERVED_8_B", none, 0xC00, 0x800⟩, by decide, rfl, by revert k; decide⟩
theorem evReservedCD (k : BitVec 1) : Statement (.evReservedCD k) :=
  ⟨⟨"EV.RESERVED_C_D", none, 0xE00, 0xC00⟩, by decide, rfl, by revert k; decide⟩
theorem evReservedE : Statement .evReservedE := ⟨⟨"EV.RESERVED_E", none, 0xF00, 0xE00⟩, by decide, rfl, by decide⟩
theorem reset : Statement .reset := ⟨⟨"RESET", none, 0xF00, 0xF00⟩, by decide, rfl, by decide⟩
theorem startByte : Statement .startByte := .head _
theorem stopByte : Statement .stopByte := .tail _ (.head _)
theorem ctrlByte (rsv : Bool) (f : CtlFields) : Statement (.ctrlByte rsv f) := .tail _ (.tail _ (.head _))
theorem isdelim (b : Byte) : Statement (.isdelim b) := ⟨rfl, rfl⟩
theorem esc (v : Byte) : Statement (.esc v) := ⟨rfl, rfl⟩
theorem unesc (w : Byte) (f : Bool) : Statement (.unesc w f) := ⟨rfl, rfl⟩
theorem ctlpack (f : CtlFields) : Statement (.ctlpack f) := ⟨rfl, rfl⟩
theorem ctlunpack (c : Byte) : Statement (.ctlunpack c) := ⟨rfl, rfl⟩
theorem crcgen (c aw : Byte) (dw : Payload) : Statement (.crcgen c aw dw) := ⟨rfl, rfl⟩
theorem encode (dir : Bool) (addr : Byte) (data : Payload) : Statement (.encode dir addr data) := ⟨rfl, rfl⟩
theorem validate (c aw d0 d1 d2 k : Byte) : Statement (.validate c aw d0 d1 d2 k) := ⟨rfl, rfl⟩
theorem decode (s : List Byte) : Statement (.decode s) := ⟨rfl, rfl⟩

end Sys2Proof.Laws.RowFits
end

