-- ==== Sys2Proof/Tests/Slice0.lean ====
section
/-! SUPPORT. Tests: expected values are those of spec/95_test_vectors.md (its labels are named) or written out from the
encodings of 30_encoding.md; and one witness for the hypotheses of each statement. -/

namespace Sys2Proof.Tests

open Sys2Proof.Machine

/-! ### Helpers -/

/-- A field of the next state, if there is one. -/
def after {α : Type} (o : Host.Outcome State Fault Refusal) (f : State → α) : Option α :=
  match o with
  | .next t => some (f t)
  | .fault _ => none
  | .refused _ => none

/-- The reset state with another receiver state. -/
def inState (st : RxState) : State := { State.reset with rxState := st }

/-- `EXPECT_STOP` with the accumulated bytes `A0 81 [02] k` (95_test_vectors.md R-15 to R-18). -/
def atStop (k : Byte) : State :=
  { inState .expectStop with rxAddr := 0xA0, rxCtrl := 0x81, rxData := ⟨0x02, 0, 0⟩, rxCrc := k }

/-- V1's frame published (95_test_vectors.md H-4). -/
def holding : State :=
  { State.reset with frameReady := true, outDir := true, outAddr := 0xA0, outN := 1, outData := ⟨0x02, 0, 0⟩,
                     outCtrl := 0x81, outCrc := 0xDC }

/-- V1's frame published, the reply of V3 loaded with its first byte sent, a second frame in its data byte. -/
def midway : State :=
  { holding with rxState := .readData, rxAddr := 0xA0, rxCtrl := 0x81,
                 txBuf := ⟨0x96, 0xA0, 0x01, 0x45, 0x1B, 0xA9, 0, 0⟩, txLen := 6, txPos := 1, txBusy := true }

/-- V1's frame. -/
def frame1 : Frame := { dir := true, addr := 0xA0, data := [0x02], ctrl := 0x81, crc := 0xDC }

/-- A payload of one byte. -/
def one (b : Byte) : Payload := { n := 1, d0 := b, d1 := 0, d2 := 0 }

/-- A payload of three bytes. -/
def three (a b c : Byte) : Payload := { n := 3, d0 := a, d1 := b, d2 := c }

/-! ### WellFormed: ill-formed operations are refused -/

theorem test_wf_skip_is_not_start : (Instr.rxSkip 0x96).wf = false ∧ (Instr.rxSkip 0xA9).wf = true := by decide
theorem test_wf_badstop_is_not_stop : (Instr.rxBadstop 0xA9).wf = false ∧ (Instr.rxBadstop 0x96).wf = true := by decide
theorem test_wf_reserved_bit : (Instr.ctrlByte true (ctlFieldsOf 0x81)).wf = false := by decide
theorem test_wf_ctrlByte_is_not_start :
    (Instr.ctrlByte false startFields).wf = false ∧ ctlLayout false startFields = 0x96#8 := by decide

/-! ### Decoding: a word written out for every constructor (30_encoding.md R81 to R83) -/

theorem test_decode_receiver :
    decode .waitStart (.event 0x096 0) = .ok .rxStart ∧
    decode .waitStart (.event 0x055 0) = .ok (.rxSkip 0x55) ∧
    decode .readAddress (.event 0x0A0 0) = .ok (.rxAddr 0xA0) ∧
    decode .readControl (.event 0x081 0) = .ok (.rxCtrl 0x81) ∧
    decode .readData (.event 0x002 0) = .ok (.rxData 0x02) ∧
    decode .readCrc (.event 0x0DC 0) = .ok (.rxCrc 0xDC) ∧
    decode .expectStop (.event 0x0A9 0) = .ok .rxStop ∧
    decode .expectStop (.event 0x096 0) = .ok (.rxBadstop 0x96) ∧
    decode .readData (.event 0x100 0) = .ok .rxLineErr := by decide

theorem test_decode_host :
    decode .readCrc (.event 0x200 0) = .ok .hostAck ∧ decode .waitStart (.event 0x3FF 0) = .ok .hostClrerr ∧
    decode .waitStart (.event 0x400 0) = .ok .hostRead := by decide

/-- The TxLoad of 95_test_vectors.md P8: `txop[34] = 0`, `txop[33:32] = 1`, `txop[31:24] = A0`, `txop[7:0] = 45`. -/
theorem test_decode_txload : decode .waitStart (.event 0x500 0x1A0000045) = .ok (.txLoad false 0xA0 (one 0x45)) := by
  decide

/-- `txop` with every field different: dir 1, n 3, addr A9, data 96 A8 97. -/
theorem test_decode_txload_fields :
    decode .waitStart (.event 0x500 0x7A997A896) = .ok (.txLoad true 0xA9 (three 0x96 0xA8 0x97)) := by decide

theorem test_decode_txnext : decode .expectStop (.event 0x600 0) = .ok .txNext := by decide

theorem test_decode_reserved_and_reset :
    decode .waitStart (.event 0x700 0) = .ok .evReserved7 ∧ decode .waitStart (.event 0x800 0) = .ok (.evReserved8B 0) ∧
    decode .waitStart (.event 0xB00 0) = .ok (.evReserved8B 3) ∧
    decode .waitStart (.event 0xD12 0) = .ok (.evReservedCD 1) ∧
    decode .waitStart (.event 0xE00 0) = .ok .evReservedE ∧ decode .readCrc (.event 0xF00 0) = .ok .reset := by decide

/-- `1000 0001` is dir 1, n 1 (95_test_vectors.md V1); the exact patterns come before the control byte's. -/
theorem test_decode_byte8 :
    decode .waitStart (.byte8 0x96) = .ok .startByte ∧ decode .waitStart (.byte8 0xA9) = .ok .stopByte ∧
    decode .waitStart (.byte8 0x81) =
      .ok (.ctrlByte false { dir := true, fa := false, f0 := false, f1 := false, f2 := false, n := 1 }) := by decide

/-- The rows of format FUNC have no word; they are given whole. -/
theorem test_decode_functions :
    decode .waitStart (.call (.isdelim 1)) = .ok (.isdelim 1) ∧ decode .waitStart (.call (.esc 1)) = .ok (.esc 1) ∧
    decode .waitStart (.call (.unesc 1 true)) = .ok (.unesc 1 true) ∧
    decode .waitStart (.call (.ctlpack startFields)) = .ok (.ctlpack startFields) ∧
    decode .waitStart (.call (.ctlunpack 1)) = .ok (.ctlunpack 1) ∧
    decode .waitStart (.call (.crcgen 1 2 (one 3))) = .ok (.crcgen 1 2 (one 3)) ∧
    decode .waitStart (.call (.encode true 2 (one 3))) = .ok (.encode true 2 (one 3)) ∧
    decode .waitStart (.call (.validate 1 2 3 4 5 6)) = .ok (.validate 1 2 3 4 5 6) ∧
    decode .waitStart (.call (.decode [1])) = .ok (.decode [1]) := by decide

theorem test_decode_rejects : decode .waitStart (.call .reset) = .error .notAFunction := by decide

theorem test_table_words :
    decodeTableWord 16 0x096 = some .rxStart ∧ decodeTableWord 16 0x000 = some (.rxSkip 0) ∧
    decodeTableWord 16 0x0A9 = some .rxStop ∧ decodeTableWord 16 0x500 = some (.txLoad false 0 ⟨0, 0, 0, 0⟩) ∧
    decodeTableWord 8 0x96 = some .startByte ∧ decodeTableWord 0 0 = none := by decide

/-! ### The receiver (95_test_vectors.md 2.2) -/

/-- R-2 with the error status set: still set. -/
theorem test_rxSkip : after (exec (.rxSkip 0xA9) { State.reset with rxError := true }) (fun t => (t.rxState, t.rxError)) =
    some (.waitStart, true) := by decide
/-- R-3. -/
theorem test_rxStart : after (exec .rxStart State.reset) (·.rxState) = some .readAddress := by decide
/-- R-5. -/
theorem test_rxAddr : after (exec (.rxAddr 0x96) (inState .readAddress)) (fun t => (t.rxState, t.rxAddr)) =
    some (.readControl, 0x96) := by decide
/-- R-9. -/
theorem test_rxCtrl_data :
    after (exec (.rxCtrl 0xFF) { inState .readControl with rxIdx := 2 }) (fun t => (t.rxState, t.rxCtrl, t.rxIdx)) =
      some (.readData, 0xFF, 0) := by decide
/-- R-8. -/
theorem test_rxCtrl_none : after (exec (.rxCtrl 0xA0) (inState .readControl)) (fun t => (t.rxState, t.rxCtrl)) =
    some (.readCrc, 0xA0) := by decide
/-- R-11. -/
theorem test_rxData_more : after (exec (.rxData 0x01) { inState .readData with rxCtrl := 0x8A })
    (fun t => (t.rxState, t.rxIdx, t.rxData)) = some (.readData, 1, ⟨0x01, 0, 0⟩) := by decide
/-- R-13. -/
theorem test_rxData_last : after (exec (.rxData 0xA9) { inState .readData with rxCtrl := 0x03, rxIdx := 2 })
    (fun t => (t.rxState, t.rxIdx, t.rxData)) = some (.readCrc, 2, ⟨0, 0, 0xA9⟩) := by decide
/-- R-14. -/
theorem test_rxCrc : after (exec (.rxCrc 0xDC) (inState .readCrc)) (fun t => (t.rxState, t.rxCrc)) =
    some (.expectStop, 0xDC) := by decide
/-- R-15. -/
theorem test_rxStop_publishes :
    after (exec .rxStop (atStop 0xDC)) (fun t => (t.rxState, t.frameReady, t.publishedFrame, t.rxError)) =
      some (.waitStart, true, frame1, false) := by decide
/-- R-16. -/
theorem test_rxStop_discards :
    after (exec .rxStop (atStop 0xDD)) (fun t => (t.rxState, t.frameReady, t.rxError, t.rxCause.code, t.answer)) =
      some (.waitStart, false, true, 3, .emits (.discarded .checksum)) := by decide
/-- R-18. -/
theorem test_rxBadstop :
    after (exec (.rxBadstop 0x96) (atStop 0xDC)) (fun t => (t.rxState, t.rxError, t.rxCause.code, t.answer)) =
      some (.waitStart, true, 1, .emits (.discarded .framingStop)) := by decide
/-- R-19. -/
theorem test_rxLineErr :
    after (exec .rxLineErr (inState .readData)) (fun t => (t.rxState, t.rxError, t.rxCause.code, t.answer)) =
      some (.waitStart, true, 2, .emits (.discarded .framingLine)) := by decide

/-! ### The transmitter (95_test_vectors.md 2.3) -/

/-- T-7. -/
theorem test_txLoad :
    after (exec (.txLoad false 0xA9 (three 0x96 0xA9 0x96)) State.reset) (fun t => (t.txBuf, t.txLen, t.txPos, t.txBusy)) =
      some (⟨0x96, 0xA8, 0x5F, 0x97, 0xA8, 0x97, 0xA0, 0xA9⟩, 8, 0, true) := by decide
/-- T-5. -/
theorem test_txLoad_refused :
    exec (.txLoad false 0xA0 (one 0)) midway = .next { midway with answer := .refuses .txBusy } := by rfl
/-- T-3. -/
theorem test_txNext_last :
    after (exec .txNext { midway with txPos := 5 }) (fun t => (t.txPos, t.txBusy, t.answer)) =
      some (6, false, .emits (.txByte 0xA9)) := by decide
/-- T-4. -/
theorem test_txNext_idle : after (exec .txNext { midway with txPos := 6, txBusy := false })
    (fun t => (t.txPos, t.txBusy, t.answer)) = some (6, false, .silent) := by decide

/-! ### The host, RESET and the reserved kinds (95_test_vectors.md 2.4) -/

/-- H-8. -/
theorem test_hostAck : after (exec .hostAck { holding with rxState := .readCrc })
    (fun t => (t.rxState, t.frameReady, t.outAddr)) = some (.readCrc, false, 0xA0) := by decide
/-- H-3. -/
theorem test_hostClrerr : after (exec .hostClrerr { State.reset with rxError := true, rxCause := .checksum })
    (fun t => (t.rxError, t.rxCause.code)) = some (false, 0) := by decide
/-- H-4. -/
theorem test_hostRead : exec .hostRead holding = .next { holding with answer := .emits (.readResult frame1) } := by rfl
/-- H-5. -/
theorem test_hostRead_refused : exec .hostRead State.reset = .next { State.reset with answer := .refuses .noFrame } := by
  rfl
/-- H-6. -/
theorem test_reset :
    after (exec .reset { midway with rxError := true, rxCause := .checksum })
      (fun t => (t.rxState, t.frameReady, t.rxError, t.rxCause)) = some (.waitStart, false, false, .none) ∧
    after (exec .reset midway) (fun t => (t.txLen, t.txPos, t.txBusy, t.answer)) = some (0, 0, false, .silent) := by decide
/-- H-7. -/
theorem test_evReserved7 : exec .evReserved7 midway = .next { midway with answer := .refuses .reservedKind } := by rfl
theorem test_evReserved8B :
    exec (.evReserved8B 3) midway = .next { midway with answer := .refuses .reservedKind } := by rfl
theorem test_evReservedCD :
    exec (.evReservedCD 1) midway = .next { midway with answer := .refuses .reservedKind } := by rfl
theorem test_evReservedE : exec .evReservedE midway = .next { midway with answer := .refuses .reservedKind } := by rfl

/-! ### The functions and the byte formats (95_test_vectors.md part 1 and 2.1) -/

theorem test_startByte : after (exec .startByte State.reset) (·.answer) = some (.computes (.byte 0x96)) := by decide
theorem test_stopByte : after (exec .stopByte State.reset) (·.answer) = some (.computes (.byte 0xA9)) := by decide
/-- V1's control byte. -/
theorem test_ctrlByte : after (exec (.ctrlByte false ⟨true, false, false, false, false, 1⟩) State.reset) (·.answer) =
    some (.computes (.byte 0x81)) := by decide
theorem test_isdelim : isDelim 0x96 = true ∧ isDelim 0xA9 = true ∧
    [0x97#8, 0xA8#8, 0x16#8, 0x09#8, 0x00#8, 0xFF#8, 0x69#8, 0x56#8].map isDelim = List.replicate 8 false := by decide
theorem test_esc : [0x96#8, 0xA9#8, 0x97#8, 0xA8#8].map escape =
    [(0x97#8, true), (0xA8#8, true), (0x97#8, false), (0xA8#8, false)] := by decide
theorem test_unesc : unescape 0x97 true = 0x96 ∧ unescape 0xA8 true = 0xA9 ∧ unescape 0x97 false = 0x97 ∧
    unescape 0x00 true = 0x01 ∧ unescape 0x96 true = 0x97 ∧ unescape 0xFF true = 0xFE := by decide
theorem test_ctlpack : ctlPack ⟨false, true, true, false, true, 3⟩ = 0x57 ∧ ctlPack ⟨true, false, true, true, true, 1⟩ = 0x85 ∧
    ctlPack ⟨false, false, false, true, false, 2⟩ = 0x0A := by decide
theorem test_ctlunpack : ctlUnpack 0x96 = ⟨true, false, true, false, true, 2⟩ ∧ ctlUnpack 0xA1 = ctlUnpack 0x81 ∧
    ctlUnpack 0x5F = ⟨false, true, true, true, true, 3⟩ := by decide
theorem test_crcgen : crcGen 0x81 0xA0 [0x02] = 0xDC ∧ crcGen 0x01 0x00 [0x68] = 0x97 ∧ crcGen 0x01 0x00 [0x69] = 0x97 ∧
    crcGen 0x00 0x56 [] = 0xAA ∧ crcGen 0x00 0x57 [] = 0xA8 := by decide
theorem test_encode : encodeFrame true 0xA0 [0x01, 0x96] = [0x96, 0xA0, 0x8A, 0x01, 0x97, 0x43, 0xA9] ∧
    encodeFrame true 0xA9 [] = [0x96, 0xA8, 0xC0, 0x97, 0xA9] ∧
    encodeFrame false 0xA0 [0x12, 0xA9, 0xFF] = [0x96, 0xA0, 0x0B, 0x12, 0xA8, 0xFF, 0x11, 0xA9] := by decide
/-- V1 under `CTRL_FIRST`, V4 under `LOGICAL`. -/
theorem test_encode_other_parameters :
    encodeFrameAs .ctrlFirst .wire true 0xA0 [0x02] = [0x96, 0x81, 0xA0, 0x02, 0xDC, 0xA9] ∧
    encodeFrameAs .addrFirst .logical true 0xA0 [0x01, 0x96] = [0x96, 0xA0, 0x8A, 0x01, 0x97, 0x42, 0xA9] := by decide
/-- N1, N4, N5; D9. -/
theorem test_validate :
    validateFrame 0xA1 0xA0 ⟨0x02, 0, 0⟩ 0xFC = .frame ⟨true, 0xA0, [0x02], 0xA1, 0xFC⟩ ∧
    validateFrame 0x00 0x96 ⟨0, 0, 0⟩ 0x69 = .frame ⟨false, 0x96, [], 0x00, 0x69⟩ ∧
    validateFrame 0x85 0xA0 ⟨0x00, 0, 0⟩ 0xDA = .frame ⟨true, 0xA0, [0x01], 0x85, 0xDA⟩ ∧
    validateFrame 0x81 0xA1 ⟨0x02, 0, 0⟩ 0xDC = .failed .checksum := by decide
/-- D1, D3, D5 to D8; U1. -/
theorem test_decode :
    decodeFrame [0x96, 0xA0, 0x81, 0x02, 0xDC, 0xA9] = .frame frame1 ∧
    decodeFrame [0x96, 0xA0, 0x81, 0x02, 0xDD, 0xA9] = .failed .checksum ∧
    decodeFrame [0x96, 0xA0, 0x81, 0x02, 0x96, 0xA9] = .failed .checksum ∧
    decodeFrame [0x96, 0xA0, 0x81, 0x02, 0xDC, 0x00] = .failed .framing ∧
    decodeFrame [0x96, 0xA0, 0x81, 0x02, 0xDC] = .failed .framing ∧
    decodeFrame [0x96, 0xA0, 0x80, 0x02, 0xDC, 0xA9] = .failed .framing ∧
    decodeFrame [0x97, 0xA0, 0x81, 0x02, 0xDC, 0xA9] = .failed .framing ∧
    decodeFrame [0x96, 0x00, 0x01, 0x69, 0x97, 0xA9] = .frame ⟨false, 0x00, [0x69], 0x01, 0x97⟩ := by decide

/-! ### The machine and the environment -/

theorem test_placed_word_runs : after (step (State.reset.withFetchWord 16 0x096)) (·.rxState) = some .readAddress := by
  decide
/-- V4: the request of an address assignment, its reply, and the address after the restart. -/
theorem test_assign_address :
    react ⟨0xA0, 0xA0⟩ none ⟨true, 0xA0, [0x01, 0x96], 0x8A, 0x43⟩ = .replyThenRestart [0x96] 0x96 ∧
    nodeAfter ⟨0xA0, 0xA0⟩ (.replyThenRestart [0x96] 0x96) = some ⟨0x96, 0x96⟩ := by decide

/-! ### Witnesses: for each statement with hypotheses, operands and a state that meet them -/

theorem witness_EscapeStuffsDelimitersOnly :
    (0x96#8 = 0x96#8 ∨ 0x96#8 = 0xA9#8) ∧ ¬ (0x97#8 = 0x96#8 ∨ 0x97#8 = 0xA9#8) := by decide
theorem witness_ControlUnpackReadsEachBit :
    maskFlags ⟨true, true, true, true, true, 3⟩ = ⟨true, true, true, true, true, 3⟩ ∧ 0x96#8 ∉ canonicalControls ∧
      0xDF#8 ∈ canonicalControls := by decide
/-- Two lists in another order; two register arrays that differ past the count. -/
theorem witness_ChecksumIsComplementOfXor : [0x01#8, 0x97#8].Perm [0x97#8, 0x01#8] ∧
    (⟨0x02, 0, 0⟩ : Bytes3).first (BitVec.extractLsb' 0 2 0x81#8) =
      (⟨0x02, 5, 6⟩ : Bytes3).first (BitVec.extractLsb' 0 2 0x81#8) := by decide
theorem witness_RxCrcStoresTheByte : 0x96#8 = 0x96#8 ∨ 0x96#8 = 0xA9#8 := by decide
theorem witness_EncodedFrameHasNoInnerDelimiter : ([0x96#8, 0xA9#8, 0x96#8] : List Byte).length ≤ 3 := by decide
/-- Both values of `isDelim`, at the first and at the last place. -/
theorem witness_EncodedFieldsAreEscapedAndFlagged :
    ([0x96#8, 0x00#8, 0xA9#8] : List Byte).length ≤ 3 ∧ isDelim 0xA9 = true ∧ isDelim 0x00 = false ∧
    ([0x96#8, 0x00#8, 0xA9#8] : List Byte)[2]? = some 0xA9 ∧ ([0x96#8, 0x00#8, 0xA9#8] : List Byte)[1]? = some 0x00 := by
  decide
theorem witness_DecodeUndoesEncode : ([] : List Byte).length ≤ 3 ∧ ([0x01#8, 0x96#8, 0xFF#8] : List Byte).length ≤ 3 := by
  decide
theorem witness_EncodeIsInjective : ([0x01#8, 0x96#8] : List Byte).length ≤ 3 ∧
    encodeFrame true 0xA0 [0x01, 0x96] = encodeFrame true 0xA0 [0x01, 0x96] := by decide
theorem witness_ValidateChecksTheChecksumOnly :
    crcGen 0x81 0xA0 ((⟨0x02, 0, 0⟩ : Bytes3).first (BitVec.extractLsb' 0 2 0x81#8)) = 0xDC ∧
    crcGen 0x81 0xA0 ((⟨0x02, 0, 0⟩ : Bytes3).first (BitVec.extractLsb' 0 2 0x81#8)) ≠ 0xDD := by decide
/-- A list too short (D6 without its end), without START (D8), without STOP (D5), of a wrong length (D7), and V1. -/
theorem witness_DecodeTestsTheShapeFirst :
    ([0x96#8, 0xA0#8, 0x81#8, 0x02#8] : List Byte).length < 5 ∧
    ([0x97#8, 0xA0#8] : List Byte).head? ≠ some 0x96 ∧
    ([0x96#8, 0xA0#8, 0x81#8, 0x02#8, 0xDC#8, 0x00#8] : List Byte).getLast? ≠ some 0xA9 ∧
    (([0x96#8, 0xA0#8, 0x80#8, 0x02#8, 0xDC#8, 0xA9#8] : List Byte)[2]? = some 0x80 ∧
      (6 : Nat) ≠ 5 + (BitVec.extractLsb' 0 2 0x80#8).toNat) ∧
    (([0x02#8] : List Byte).length = (BitVec.extractLsb' 0 2 0x81#8).toNat ∧
      [0x96#8, 0xA0#8, 0x81#8, 0x02#8, 0xDC#8, 0xA9#8] = [0x96#8, 0xA0#8, 0x81#8] ++ [0x02#8] ++ [0xDC#8, 0xA9#8]) := by
  decide
theorem witness_RxSkipWritesNothing : 0xA9#8 ≠ 0x96#8 := by decide
theorem witness_NoiseOutsideAFrameIsSkipped :
    State.reset.rxState = .waitStart ∧ ∀ b ∈ [0x00#8, 0xA9#8, 0x55#8], b ≠ 0x96#8 := by decide
/-- Every index. -/
theorem witness_RxDataStoresTheByteAtTheIndex :
    ({ inState .readData with rxCtrl := 0x8A } : State).rxIdx = 0 ∧
    ({ inState .readData with rxCtrl := 0x8A, rxIdx := 1 } : State).rxIdx = 1 ∧
    ({ inState .readData with rxCtrl := 0x03, rxIdx := 2 } : State).rxIdx = 2 := by decide
theorem witness_RxStopPublishesOrDiscards :
    crcGen (atStop 0xDC).rxCtrl (atStop 0xDC).rxAddr ((atStop 0xDC).rxData.first (BitVec.extractLsb' 0 2 (atStop 0xDC).rxCtrl)) =
      (atStop 0xDC).rxCrc ∧
    crcGen (atStop 0xDD).rxCtrl (atStop 0xDD).rxAddr ((atStop 0xDD).rxData.first (BitVec.extractLsb' 0 2 (atStop 0xDD).rxCtrl)) ≠
      (atStop 0xDD).rxCrc := by decide
theorem witness_RxBadstopDiscards : 0x96#8 ≠ 0xA9#8 := by decide
theorem witness_DiscardSequenceChangesNothingElse :
    crcGen (atStop 0xDD).rxCtrl (atStop 0xDD).rxAddr ((atStop 0xDD).rxData.first (BitVec.extractLsb' 0 2 (atStop 0xDD).rxCtrl)) ≠
      (atStop 0xDD).rxCrc := by decide
theorem witness_AccessOutsideARegisterArrayFaults :
    ({ inState .readData with rxIdx := 3 } : State).rxIdx = 3 ∧ ({ midway with txPos := 8 } : State).txBusy = true ∧
    8 ≤ ({ midway with txPos := 8 } : State).txPos.toNat := by decide
/-- The largest index, `READ_CONTROL`, a data byte with another to come, a line error, and an operation of the host. -/
theorem witness_RxStateFollowsTheTransitionTable :
    ({ inState .readData with rxIdx := 2 } : State).rxIdx.toNat < 3 ∧ (inState .readControl).rxState = .readControl ∧
    ({ inState .readData with rxCtrl := 0x03, rxIdx := 1 } : State).rxIdx.toNat + 1 <
      (BitVec.extractLsb' 0 2 0x03#8).toNat ∧
    (after (exec .rxLineErr State.reset) (·.rxState)).isSome = true ∧ contextOf .hostAck = .host ∧
    (after (exec .hostAck holding) (·.rxState)).isSome = true := by decide
theorem witness_ReceiverIgnoresFrameReady : contextOf .rxStop = .receive := by decide
theorem witness_EveryPublishedFrameIsValidated :
    ∃ t, exec .rxStop (atStop 0xDC) = .next t ∧ t.answer = .emits (.published frame1) := ⟨_, rfl, rfl⟩
theorem witness_ReceiverAgreesWithDecode :
    State.reset.rxState = .waitStart ∧ decodeFrame [0x96, 0xA0, 0x81, 0x02, 0xDC, 0xA9] = .frame frame1 := by decide
theorem witness_CanonicalFrameIsPublished :
    ([0x01#8, 0x96#8, 0xFF#8] : List Byte).length ≤ 3 ∧ State.reset.rxState = .waitStart := by decide
theorem witness_CorruptedChecksumIsDiscarded :
    ([0x02#8] : List Byte).length ≤ 3 ∧ State.reset.rxState = .waitStart ∧
    (encodeFrame true 0xA0 [0x02])[3 + 1]? ≠ some 0xDD := by decide
theorem witness_TxLoadArmsTheSequencer : State.reset.txBusy = false ∧ midway.txBusy = true := by decide
theorem witness_TxNextEmitsOneByte :
    State.reset.txBusy = false ∧ ({ midway with txPos := 5 } : State).txBusy = true ∧
    ({ midway with txPos := 5 } : State).txBuf.get 5 = some 0xA9 := by decide
theorem witness_LoadedFrameIsTransmittedInOrder : State.reset.txBusy = false := by decide
theorem witness_HostReadReturnsThePublishedFrame : holding.frameReady = true ∧ State.reset.frameReady = false := by decide
theorem witness_ResetIsALaunchState :
    midway.input = [] ∧ midway.echo = none ∧ ∃ t, exec .reset midway = .next t := ⟨rfl, rfl, _, rfl⟩
theorem witness_ReservedKindsChangeNothing : 7 ≤ (7#4).toNat ∧ (14#4).toNat ≤ 14 := by decide
/-- One operation of each context, in states in which the flags that the clauses name are set. -/
theorem witness_ContextsKeepTheirRights :
    (contextOf .rxLineErr = .receive ∧ holding.frameReady = true ∧ (after (exec .rxLineErr holding) (·.rxError)).isSome = true) ∧
    (contextOf .hostClrerr = .host ∧ after (exec .hostClrerr holding) (·.frameReady) = some true) ∧
    (contextOf .hostAck = .host ∧
      after (exec .hostAck { holding with rxError := true, rxCause := .checksum }) (·.rxError) = some true) ∧
    (contextOf .txNext = .transmit ∧ (after (exec .txNext midway) (·.txPos)).isSome = true) ∧
    (contextOf .evReservedE = .outside ∧ (after (exec .evReservedE midway) (·.txPos)).isSome = true) ∧
    (after (exec .rxLineErr { holding with rxError := true, rxCause := .checksum }) (·.rxCause)) ≠ some .none := by decide
theorem witness_PublishedFrameIsWrittenByPublicationOnly :
    ∃ t, exec .rxLineErr holding = .next t ∧ Instr.rxLineErr ≠ .reset ∧ Instr.rxLineErr ≠ .hostAck ∧
      t.answer.publishes = false := ⟨_, rfl, by decide, by decide, rfl⟩
theorem witness_ErrorStatusRecordsDiscardsOnly :
    (∃ t, exec .rxLineErr holding = .next t) ∧ Instr.rxLineErr ≠ .hostClrerr ∧ Instr.rxLineErr ≠ .reset :=
  ⟨⟨_, rfl⟩, by decide, by decide⟩
theorem witness_StepRunsTheSelectedOperation :
    (State.reset.echo = none ∧ ({ State.reset with input := [.event 0x096 0, .event 0x0A0 0] } : State).input =
      .event 0x096 0 :: [.event 0x0A0 0] ∧ decode State.reset.rxState (.event 0x096 0) = .ok .rxStart) ∧
    State.reset.input = [] := by decide
theorem witness_PlacedWordRunsNext :
    decodeTableWord 16 0x0A9 = some .rxStop ∧ decodeTableWord 8 0x81 = some (.ctrlByte false (ctlFieldsOf 0x81)) := by decide
/-- The reply of V3 on the line: its second byte emitted; and a byte that waits to be heard. -/
theorem witness_EmittedByteIsHeardBeforeTheNext :
    (∃ t, step { midway with input := [.event 0x600 0] } = .next t ∧ t.answer = .emits (.txByte 0xA0)) ∧
    (State.reset.echo = none ∧ ∃ t, step State.reset = .next t) ∧
    (({ State.reset with echo := some 0x96 } : State).echo = some 0x96 ∧
      ∃ t, step { State.reset with echo := some 0x96 } = .next t) := by
  have h : ∀ s : State, s.hearOwn.answer = s.answer := by
    intro s
    unfold State.hearOwn
    split <;> (try split) <;> simp_all
  exact ⟨⟨_, rfl, h _⟩, ⟨rfl, _, rfl⟩, rfl, _, rfl⟩
/-- A state in the midst of a frame, with a frame published and a frame on its way out, meets the invariant. -/
theorem witness_invariant : BlockInv midway where
  idxBelowCount := by decide
  causeNoneIffNoError := by decide
  busyInRange := by decide
  idleAtEnd := by decide
  loadedIsCanonical := fun _ => ⟨false, 0xA0, [0x45], by decide, by decide⟩
  publishedIsValid := fun _ => ⟨0xA0, ⟨0x02, 0, 0⟩, by decide⟩
theorem witness_ReceiverReturnsToWaitStart : BlockInv midway ∧ (List.replicate 7 0x96#8).length = 7 :=
  ⟨witness_invariant, rfl⟩
theorem witness_LaunchStatesMeetTheInvariant : Launch { State.reset with rxAddr := 0xFF, outN := 3, answer := .refuses .txBusy } :=
  ⟨rfl, rfl, rfl, rfl, rfl, rfl, rfl, rfl, rfl, rfl⟩
theorem witness_EveryStepKeepsTheInvariant : BlockInv midway ∧ ∃ t, step midway = .next t := ⟨witness_invariant, _, rfl⟩
theorem witness_InvariantStatesNeverStop : BlockInv { midway with input := [.call (.isdelim 0x96)] } ∧
    ∀ i, Input.call i ∈ ({ midway with input := [.call (.isdelim 0x96)] } : State).input → i.isFunc = true :=
  ⟨⟨by decide, by decide, by decide, by decide, witness_invariant.loadedIsCanonical, witness_invariant.publishedIsValid⟩,
    fun i h => by simp at h; rw [h]; rfl⟩
/-- The two states differ in unused data registers, in `rx_crc` and past the published data. -/
theorem witness_UnspecifiedRegistersAreUnobservable :
    BlockInv midway ∧ SameView midway { midway with rxData := ⟨1, 2, 3⟩, rxCrc := 0xFF, outData := ⟨0x02, 5, 6⟩ } ∧
    midway ≠ { midway with rxData := ⟨1, 2, 3⟩, rxCrc := 0xFF, outData := ⟨0x02, 5, 6⟩ } :=
  ⟨witness_invariant,
    ⟨rfl, ⟨rfl, rfl, rfl, by decide⟩, rfl, fun _ => by decide, rfl, rfl, rfl, rfl, rfl, fun _ => rfl, rfl, rfl, rfl⟩,
    by decide⟩
theorem witness_DecodeUndoesEncodeOfEveryOperation :
    (Instr.rxBadstop 0x96).wf = true ∧ (Instr.rxBadstop 0x96).selectedIn .expectStop = true ∧
    (Instr.ctrlByte false (ctlFieldsOf 0xDF)).wf = true := by decide
/-- Another node's frame; the requests of V4, V5 and V3. -/
theorem witness_DispatcherAnswersByCommandCode :
    (⟨true, 0xA0, [0x02], 0x81, 0xDC⟩ : Frame).addr ≠ (⟨0x10, 0x10⟩ : Node).address ∧
    ((⟨true, 0xA0, [0x01, 0x96], 0x8A, 0x43⟩ : Frame).addr = (⟨0xA0, 0xA0⟩ : Node).address ∧ (0x96#8 : Byte) ≠ 0xFF#8) ∧
    frame1.data = 0x02#8 :: [] ∧ (some (⟨0x12, 0xA9, 0xFF⟩ : Bytes3)) = some ⟨0x12, 0xA9, 0xFF⟩ ∧
    ((0x09#8 : Byte) ≠ 0x01#8 ∧ (0x09#8 : Byte) ≠ 0x02#8) := by decide

end Sys2Proof.Tests
end

section
/-! PROOFS. 00_scope.md: what one step takes, runs and hears (O48, O50). -/

namespace Sys2Proof.Machine

/-! ### The decoder and TX.NEXT -/

/-- A received byte selects an operation of the receive context (30_encoding.md R82, 60_exceptions.md R225). -/
theorem contextOf_decodeRxByte (st : RxState) (b : Byte) : contextOf (decodeRxByte st b) = .receive := by
  cases st
  case waitStart | expectStop => unfold decodeRxByte; dsimp only; split <;> rfl
  all_goals rfl

/-- Among the events, kind 6 alone selects TX.NEXT (30_encoding.md R81). -/
theorem evKind_of_decodeEvent_txNext {st : RxState} {ev : BitVec 12} {txop : BitVec 35}
    (h : decodeEvent st ev txop = .txNext) : evKind ev = 0x6 := by
  unfold decodeEvent at h
  split at h
  case h_1 =>
    have hc := contextOf_decodeRxByte st (evByte ev)
    rw [h] at hc
    cases hc
  case h_7 hk => exact BitVec.eq_of_toNat_eq hk
  all_goals cases h

/-- No byte format selects TX.NEXT (30_encoding.md R83). -/
theorem decodeByte8_ne_txNext (b : Byte) : decodeByte8 b ≠ .txNext := by
  unfold decodeByte8
  split
  · nofun
  · split <;> nofun

/-- While a frame is on its way out, an item that selects TX.NEXT is one that `wouldEmit` announces. -/
theorem wouldEmit_of_decode_txNext {s : State} {x : Input} {st : RxState} (h : decode st x = .ok .txNext)
    (hb : s.txBusy = true) : s.wouldEmit x = true := by
  cases x with
  | event ev txop =>
    have hk : evKind ev = 0x6 := evKind_of_decodeEvent_txNext (Except.ok.inj h)
    simp [State.wouldEmit, hb, hk]
  | byte8 b => exact absurd (Except.ok.inj h) (decodeByte8_ne_txNext b)
  | call i =>
    by_cases hf : i.isFunc = true
    · rw [decode, if_pos hf] at h
      cases h
      cases hf
    · rw [decode, if_neg hf] at h
      cases h

/-- A received byte never makes the transmitter emit. -/
@[simp] theorem wouldEmit_rxByteInput (s : State) (b : Byte) : s.wouldEmit (rxByteInput b) = false := by
  simp [State.wouldEmit, rxByteInput, evWord]

/-! ### What an operation does to the line -/

/-- An operation other than TX.NEXT emits no byte and leaves a waiting byte alone. -/
theorem exec_silent_of_ne_txNext {i : Instr} {s t : State} (h : exec i s = .next t) (hi : i ≠ .txNext) :
    t.echo = s.echo ∧ ∀ b, t.answer ≠ .emits (.txByte b) := by
  cases i with
  | txNext => contradiction
  | rxData b =>
    obtain ⟨d, -, ⟨-, rfl⟩ | ⟨-, rfl⟩⟩ := captureData_cases (execRxData_cases h) <;> simp
  | rxStop =>
    cases h
    obtain ⟨f, -, hc⟩ | ⟨-, hc⟩ := closeFrame_cases s <;> simp [hc]
  | txLoad dir addr p =>
    obtain ⟨-, rfl⟩ | ⟨-, rfl⟩ := execTxLoad_cases h <;> simp
  | hostRead =>
    obtain ⟨-, rfl⟩ | ⟨-, rfl⟩ := execHostRead_cases h <;> simp
  | _ => cases h; simp

/-- TX.NEXT leaves a waiting byte alone and emits only while a frame is on its way out (42_transmitter.md R162). -/
theorem exec_txNext_line {s t : State} (h : exec .txNext s = .next t) :
    t.echo = s.echo ∧ ∀ b, t.answer = .emits (.txByte b) → s.txBusy = true := by
  obtain ⟨-, rfl⟩ | ⟨b, hb, -, rfl⟩ := execTxNext_cases h
  · simp
  · exact ⟨rfl, fun _ _ => hb⟩

/-- No operation touches a byte that waits to be heard. -/
theorem exec_echo {i : Instr} {s t : State} (h : exec i s = .next t) : t.echo = s.echo := by
  by_cases hi : i = .txNext
  · subst hi
    exact (exec_txNext_line h).1
  · exact (exec_silent_of_ne_txNext h hi).1

/-- A byte is emitted by TX.NEXT alone, while a frame is on its way out. -/
theorem txNext_of_exec_txByte {i : Instr} {s t : State} {b : Byte} (h : exec i s = .next t)
    (ha : t.answer = .emits (.txByte b)) : i = .txNext ∧ s.txBusy = true := by
  by_cases hi : i = .txNext
  · subst hi
    exact ⟨rfl, (exec_txNext_line h).2 b ha⟩
  · exact absurd ha ((exec_silent_of_ne_txNext h hi).2 b)

/-! ### Listening to the own line -/

/-- Listening changes no answer. -/
@[simp] theorem hearOwn_answer (s : State) : s.hearOwn.answer = s.answer := by
  obtain h | ⟨b, -, -, h⟩ := hearOwn_cases s <;> rw [h]

/-- An emitted byte is left waiting exactly with `LOOPBACK` (92_eei_decisions.md D22). -/
theorem hearOwn_echo_of_txByte {s : State} {b : Byte} (h : s.answer = .emits (.txByte b)) :
    s.hearOwn.echo = if Config.loopback = true then some b else s.echo := by
  unfold State.hearOwn
  rw [h]
  dsimp only
  split <;> rfl

/-- With no byte emitted there is nothing to hear. -/
theorem hearOwn_of_no_txByte {s : State} (h : ∀ b, s.answer ≠ .emits (.txByte b)) : s.hearOwn = s := by
  obtain h' | ⟨b, hb, -⟩ := hearOwn_cases s
  · exact h'
  · exact absurd hb (h b)

/-! ### What a step does to the line -/

/-- Delivering an item that decodes is executing its operation. -/
theorem deliver_of_decode {s : State} {x : Input} {i : Instr} (h : decode s.rxState x = .ok i) :
    deliver x s = exec i s := by
  rw [deliver, h]

/-- An item emits a byte only where `wouldEmit` announces it; any other item is plainly delivered. -/
theorem takeItem_line {x : Input} {s t : State} (h : takeItem x s = .next t) :
    (∃ b, t.answer = .emits (.txByte b) ∧ s.wouldEmit x = true ∧
      t.echo = if Config.loopback = true then some b else s.echo) ∨
    ((∀ b, t.answer ≠ .emits (.txByte b)) ∧ deliver x s = .next t ∧ t.echo = s.echo) := by
  obtain ⟨i, u, hd, hx, rfl⟩ := takeItem_cases h
  rw [hearOwn_answer]
  by_cases ha : ∃ b, u.answer = .emits (.txByte b)
  · obtain ⟨b, hb⟩ := ha
    obtain ⟨rfl, hbusy⟩ := txNext_of_exec_txByte hx hb
    exact .inl ⟨b, hb, wouldEmit_of_decode_txNext hd hbusy, by rw [hearOwn_echo_of_txByte hb, exec_echo hx]⟩
  · have hno : ∀ b, u.answer ≠ .emits (.txByte b) := fun b hb => ha ⟨b, hb⟩
    rw [hearOwn_of_no_txByte hno]
    exact .inr ⟨hno, (deliver_of_decode hd).trans hx, exec_echo hx⟩

/-- A step with an item to take is the taking of that item. -/
theorem step_of_fetch {s u : State} {x : Input} (h : s.fetch = some (x, u)) : step s = takeItem x u := by
  rw [step, h]

/-- A step with nothing to take holds the state (41_receiver.md R142). -/
theorem step_of_fetch_none {s : State} (h : s.fetch = none) : step s = .next (s.answering .silent) := by
  rw [step, h, idle]

/-- With no echo pending and nothing outstanding there is nothing to take. -/
theorem fetch_nil {s : State} (he : s.echo = none) (hi : s.input = []) : s.fetch = none := by
  rw [State.fetch, he, hi]

/-- All that a step can do to the line: emit a byte while none waits, deliver the byte that waits, or emit nothing and
leave what waits (92_eei_decisions.md D22). -/
theorem step_line_cases {s t : State} (h : step s = .next t) :
    (∃ b, t.answer = .emits (.txByte b) ∧ s.echo = none ∧
      t.echo = if Config.loopback = true then some b else none) ∨
    ((∀ c, t.answer ≠ .emits (.txByte c)) ∧
      ∃ b k, s.echo = some b ∧ deliver (rxByteInput b) { s with echo := none, freeCount := k } = .next t) ∨
    ((∀ c, t.answer ≠ .emits (.txByte c)) ∧ t.echo = s.echo) := by
  cases hf : s.fetch with
  | none =>
    rw [step_of_fetch_none hf] at h
    cases h
    exact .inr (.inr (by simp))
  | some p =>
    obtain ⟨x, u⟩ := p
    rw [step_of_fetch hf] at h
    obtain ⟨rest, hs, -, rfl⟩ | ⟨b, k, hs, rfl, rfl⟩ | ⟨rest, -, -, hw, rfl⟩ := fetch_cases hf
    · obtain ⟨b, ha, -, he⟩ | ⟨hno, -, he⟩ := takeItem_line h
      · exact .inl ⟨b, ha, hs, by rw [he, hs]⟩
      · exact .inr (.inr ⟨hno, he⟩)
    · obtain ⟨c, -, hw, -⟩ | ⟨hno, hd, -⟩ := takeItem_line h
      · simp at hw
      · exact .inr (.inl ⟨hno, b, k, hs, hd⟩)
    · obtain ⟨c, -, hw', -⟩ | ⟨hno, -, he⟩ := takeItem_line h
      · have hsame : State.wouldEmit { s with input := rest, freeCount := s.freeCount + 1 } x = s.wouldEmit x := rfl
        rw [hsame, hw] at hw'
        cases hw'
      · exact .inr (.inr ⟨hno, he⟩)

/-- Settles O50: each clause reads off what a step can do to the line. -/
theorem emittedByteIsHeardBeforeTheNext : Obligations.EmittedByteIsHeardBeforeTheNext := by
  unfold Obligations.EmittedByteIsHeardBeforeTheNext
  refine ⟨?emitted, ?without, ?waiting⟩
  case emitted =>
    intro s t b h ha
    obtain ⟨c, hc, hs, he⟩ | ⟨hno, -⟩ | ⟨hno, -⟩ := step_line_cases h
    · rw [hc] at ha
      cases ha
      rw [he, hs]
    · exact absurd ha (hno b)
    · exact absurd ha (hno b)
  case without =>
    intro s t hs h
    obtain ⟨c, -, -, he⟩ | ⟨-, b, k, hb, -⟩ | ⟨-, he⟩ := step_line_cases h
    · by_cases hl : Config.loopback = true
      · exact .inr hl
      · exact .inl (by rw [he, if_neg hl])
    · rw [hs] at hb
      cases hb
    · exact .inl (he.trans hs)
  case waiting =>
    intro s t b hs h
    obtain ⟨c, -, hn, -⟩ | ⟨hno, c, k, hc, hd⟩ | ⟨hno, he⟩ := step_line_cases h
    · rw [hs] at hn
      cases hn
    · rw [hs] at hc
      cases hc
      exact ⟨hno, .inr ⟨k, t, hd, rfl⟩⟩
    · exact ⟨hno, .inl (he.trans hs)⟩

/-- Settles O48: the head of the outstanding items is taken, and delivering it is executing what it decodes to. -/
theorem stepRunsTheSelectedOperation : Obligations.StepRunsTheSelectedOperation := by
  unfold Obligations.StepRunsTheSelectedOperation
  refine ⟨?item, fun s he hi => step_of_fetch_none (fetch_nil he hi)⟩
  case item =>
    intro s x rest i he hi hd
    have hrun : deliver x { s with input := rest } = exec i { s with input := rest } := deliver_of_decode hd
    rw [step_of_fetch (fetch_head he hi), ← hrun]
    rfl

end Sys2Proof.Machine
end

section
/-! PROOFS. 10_state.md: the invariant at launch and under every step (O51, O52), who writes the published frame and the
error status (O46, O47), and the status word (O44). -/

namespace Sys2Proof.Machine

/-! ### Operations outside the block -/

/-- A reserved event, a byte format or a function only answers, the same in every state, and outputs no event
(30_encoding.md R84, 40_codec.md R100). -/
theorem exec_of_outside {i : Instr} (hi : contextOf i = .outside) :
    ∃ a, (∀ s, exec i s = .next (s.answering a)) ∧ ∀ o, a ≠ .emits o := by
  cases i with
  | evReserved7 | evReserved8B | evReservedCD | evReservedE | startByte | stopByte | ctrlByte | isdelim | esc | unesc
  | ctlpack | ctlunpack | crcgen | encode | validate | decode => exact ⟨_, fun _ => rfl, nofun⟩
  | _ => cases hi

/-! ### The published frame and the error status -/

/-- Settles O46: of the operations that write the published frame, RX.STOP answers its publication, and HOST.ACK writes
the flag alone. -/
theorem publishedFrameIsWrittenByPublicationOnly : Obligations.PublishedFrameIsWrittenByPublicationOnly := by
  unfold Obligations.PublishedFrameIsWrittenByPublicationOnly
  intro i s t h hreset hpub
  cases i with
  | reset => contradiction
  | hostAck => cases h; simp
  | rxData b =>
    obtain ⟨d, -, ⟨-, rfl⟩ | ⟨-, rfl⟩⟩ := captureData_cases (execRxData_cases h) <;> simp
  | rxStop =>
    cases h
    obtain ⟨f, -, hc⟩ | ⟨-, hc⟩ := closeFrame_cases s
    · rw [hc] at hpub
      cases hpub
    · simp [hc]
  | txLoad dir addr p =>
    obtain ⟨-, rfl⟩ | ⟨-, rfl⟩ := execTxLoad_cases h <;> simp
  | txNext =>
    obtain ⟨-, rfl⟩ | ⟨b, -, -, rfl⟩ := execTxNext_cases h <;> simp
  | hostRead =>
    obtain ⟨-, rfl⟩ | ⟨-, rfl⟩ := execHostRead_cases h <;> simp
  | _ => cases h; simp

/-- Settles O47: the operations that write the error status are HOST.CLRERR, RESET and the three that discard, all of the
receive context. -/
theorem errorStatusRecordsDiscardsOnly : Obligations.ErrorStatusRecordsDiscardsOnly := by
  unfold Obligations.ErrorStatusRecordsDiscardsOnly
  intro i s t h hclrerr hreset
  cases i with
  | hostClrerr | reset => contradiction
  | rxLineErr =>
    cases h
    exact .inl ⟨.framingLine, nofun, rfl, rfl, rfl, rfl⟩
  | rxBadstop b =>
    cases h
    exact .inl ⟨.framingStop, nofun, rfl, rfl, rfl, rfl⟩
  | rxStop =>
    cases h
    obtain ⟨f, -, hc⟩ | ⟨-, hc⟩ := closeFrame_cases s
    · exact .inr (by simp [hc])
    · exact .inl ⟨.checksum, nofun, by simp [hc], by simp [hc], by simp [hc], rfl⟩
  | rxData b =>
    obtain ⟨d, -, ⟨-, rfl⟩ | ⟨-, rfl⟩⟩ := captureData_cases (execRxData_cases h) <;> exact .inr (by simp)
  | txLoad dir addr p =>
    obtain ⟨-, rfl⟩ | ⟨-, rfl⟩ := execTxLoad_cases h <;> exact .inr (by simp)
  | txNext =>
    obtain ⟨-, rfl⟩ | ⟨b, -, -, rfl⟩ := execTxNext_cases h <;> exact .inr (by simp)
  | hostRead =>
    obtain ⟨-, rfl⟩ | ⟨-, rfl⟩ := execHostRead_cases h <;> exact .inr (by simp)
  | _ => cases h; exact .inr (by simp)

/-- A word put together from its five parts gives each part back. -/
theorem statusParts (ready error busy : Bool) (cause : BitVec 2) :
    let w : Byte := 0#3 ++ BitVec.ofBool busy ++ cause ++ BitVec.ofBool error ++ BitVec.ofBool ready
    w.getLsbD 0 = ready ∧ w.getLsbD 1 = error ∧ w.extractLsb' 2 2 = cause ∧ w.getLsbD 4 = busy ∧
      w.extractLsb' 5 3 = 0 := by
  revert ready error busy cause
  decide

/-- Settles O44. -/
theorem statusWordPacksTheFlags : Obligations.StatusWordPacksTheFlags := by
  unfold Obligations.StatusWordPacksTheFlags
  intro s
  exact statusParts s.frameReady s.rxError s.txBusy s.rxCause.code

/-! ### The invariant at launch -/

/-- With no frame published, none loaded, no discard recorded and the receiver at rest there is nothing to keep. -/
theorem Launch.blockInv {s : State} (h : Launch s) : BlockInv s where
  idxBelowCount := by simp [h.rxState]
  causeNoneIffNoError := by simp [h.rxCause, h.rxError]
  busyInRange := by simp [h.txBusy]
  idleAtEnd := by simp [h.txPos, h.txLen]
  loadedIsCanonical := by simp [h.txLen]
  publishedIsValid := by simp [h.frameReady]

/-- The reset state is a launch state (10_state.md R44). -/
theorem launch_reset : Launch State.reset := ⟨rfl, rfl, rfl, rfl, rfl, rfl, rfl, rfl, rfl, rfl⟩

/-- Settles O51. -/
theorem launchStatesMeetTheInvariant : Obligations.LaunchStatesMeetTheInvariant :=
  ⟨launch_reset.blockInv, fun _ => Launch.blockInv⟩

/-! ### The invariant under the shared updates of the registers -/

/-- An answer is no part of the invariant. -/
theorem BlockInv.answering {s : State} (h : BlockInv s) (a : Answer) : BlockInv (s.answering a) := { h with }

/-- Outside `READ_DATA` nothing is asked of the receiver's registers. -/
theorem BlockInv.goTo {s : State} (h : BlockInv s) {st : RxState} (hst : st ≠ .readData) : BlockInv (s.goTo st) :=
  { h with idxBelowCount := fun hd => absurd hd hst }

/-- A discard records its cause with the flag. -/
theorem BlockInv.raise {s : State} (h : BlockInv s) {c : Cause} (hc : c ≠ .none) : BlockInv (s.raise c) :=
  { h with
    idxBelowCount := nofun
    causeNoneIffNoError := by simp [hc] }

theorem BlockInv.clearError {s : State} (h : BlockInv s) : BlockInv s.clearError :=
  { h with causeNoneIffNoError := by simp }

theorem BlockInv.clearReady {s : State} (h : BlockInv s) : BlockInv s.clearReady :=
  { h with publishedIsValid := nofun }

/-- The address byte is not the last of the header. -/
theorem BlockInv.captureAddress {s : State} (h : BlockInv s) (b : Byte) :
    BlockInv (s.captureAddress .addrFirst b) :=
  { h with idxBelowCount := nofun }

/-- After the header a data byte comes exactly when the control byte announces one (41_receiver.md R131). -/
theorem afterHeader_cases (c : Byte) :
    (afterHeader c = .readData ∧ 0 < (ctlCount c).toNat) ∨ (afterHeader c = .readCrc ∧ ctlCount c = 0) := by
  unfold afterHeader
  split
  · exact .inl ⟨rfl, ‹_›⟩
  · exact .inr ⟨rfl, BitVec.eq_of_toNat_eq (by simp; omega)⟩

/-- Data bytes are read from index 0 on, and only when there are some. -/
theorem BlockInv.captureControl {s : State} (h : BlockInv s) (b : Byte) :
    BlockInv (s.captureControl .addrFirst b) :=
  { h with
    idxBelowCount := by
      obtain ⟨-, hn⟩ | ⟨hst, -⟩ := afterHeader_cases b
      · exact fun _ => hn
      · simp [State.captureControl, hst] }

/-- Counting up below a bound does not wrap. -/
theorem toNat_succ_of_lt {w : Nat} {i n : BitVec w} (h : i.toNat < n.toNat) : (i + 1).toNat = i.toNat + 1 := by
  have hn : n.toNat < 2 ^ w := n.isLt
  have hone : (1 : BitVec w).toNat = 1 := BitVec.toNat_one (Nat.pos_of_ne_zero (by rintro rfl; omega))
  rw [BitVec.toNat_add_of_lt (by omega), hone]

/-- The index moves on only while another data byte is announced. -/
theorem BlockInv.captureData {s t : State} {b : Byte} (h : BlockInv s) (ht : s.captureData b = some t) :
    BlockInv t := by
  obtain ⟨d, -, ⟨hm, rfl⟩ | ⟨-, rfl⟩⟩ := captureData_cases ht
  · exact { h with idxBelowCount := fun _ => (toNat_succ_of_lt (Nat.lt_of_succ_lt hm)).trans_lt hm }
  · exact { h with idxBelowCount := nofun }

theorem BlockInv.captureChecksum {s : State} (h : BlockInv s) (b : Byte) : BlockInv (s.captureChecksum b) :=
  { h with idxBelowCount := nofun }

/-- What the host reads after a publication is the frame that `VALIDATE` gave. -/
theorem publish_publishedFrame {s : State} {f : Frame} (hv : s.validated = .frame f) :
    (s.publish f).publishedFrame = f := by
  obtain ⟨hctrl, hcrc, hlen⟩ := validateFrame_frame hv
  simp [State.publishedFrame, ofList_first _ _ _ hlen]
  rw [← hctrl, ← hcrc]

theorem BlockInv.publish {s : State} {f : Frame} (h : BlockInv s) (hv : s.validated = .frame f) :
    BlockInv (s.publish f) :=
  { h with
    idxBelowCount := nofun
    publishedIsValid := fun _ => ⟨s.rxAddr, s.rxData, by rw [publish_publishedFrame hv]; exact hv⟩ }

/-- A candidate frame is closed with its validated frame published, or with a recorded cause. -/
theorem BlockInv.closeFrame {s : State} (h : BlockInv s) : BlockInv s.closeFrame := by
  obtain ⟨f, hv, hc⟩ | ⟨-, hc⟩ := closeFrame_cases s <;> rw [hc]
  · exact h.publish hv
  · exact h.raise nofun

/-- A frame on the wire is its data bytes and five more (30_encoding.md R70). -/
theorem encodeFrame_length (dir : Bool) (addr : Byte) (data : List Byte) :
    (encodeFrame dir addr data).length = 5 + data.length := by
  simp [encodeFrame, encodeFrameAs, header]
  omega

/-- A payload's frame is between 5 and 8 bytes long. -/
theorem encodeFrame_payload_length (dir : Bool) (addr : Byte) (p : Payload) :
    5 ≤ (encodeFrame dir addr (payloadBytes p)).length ∧ (encodeFrame dir addr (payloadBytes p)).length ≤ 8 := by
  have hn : p.n.toNat < 4 := p.n.isLt
  rw [encodeFrame_length, payloadBytes_length]
  omega

/-- A list of at most eight bytes is counted in four bits without loss, and loaded whole. -/
theorem loadTx_first {l : List Byte} (s : State) (hl : l.length ≤ 8) :
    (s.loadTx l).txLen.toNat = l.length ∧ (s.loadTx l).txBuf.first (s.loadTx l).txLen = l := by
  have hlen : (BitVec.ofNat 4 l.length).toNat = l.length := by
    simp
    omega
  exact ⟨hlen, by rw [Bytes8.first, loadTx_txLen, hlen]; exact ofList8_take l s.freeCount hl⟩

theorem BlockInv.loadTx {s : State} (h : BlockInv s) (dir : Bool) (addr : Byte) (p : Payload) :
    BlockInv (s.loadTx (encodeFrame dir addr (payloadBytes p))) := by
  obtain ⟨hlo, hhi⟩ := encodeFrame_payload_length dir addr p
  obtain ⟨hlen, hbuf⟩ := loadTx_first s hhi
  have hdata : (payloadBytes p).length ≤ 3 := by
    have hn : p.n.toNat < 4 := p.n.isLt
    rw [payloadBytes_length]
    omega
  exact { h with
    busyInRange := fun _ => by rw [hlen, loadTx_txPos]; exact ⟨hlo, hhi, by simp; omega⟩
    idleAtEnd := nofun
    loadedIsCanonical := fun _ => ⟨dir, addr, payloadBytes p, hdata, hbuf⟩ }

/-- The transmitter is busy after a byte exactly while it has not reached the end. -/
theorem BlockInv.emitTx {s : State} (h : BlockInv s) (hb : s.txBusy = true) (b : Byte) : BlockInv (s.emitTx b) := by
  obtain ⟨hlo, hhi, hpos⟩ := h.busyInRange hb
  have hsucc : (s.txPos + 1).toNat = s.txPos.toNat + 1 := toNat_succ_of_lt hpos
  refine { h with busyInRange := fun hbusy => ⟨hlo, hhi, ?range⟩, idleAtEnd := fun hidle => ?atEnd }
  case range =>
    have hne : s.txPos + 1 ≠ s.txLen := by simpa using hbusy
    have hne' : (s.txPos + 1).toNat ≠ s.txLen.toNat := fun he => hne (BitVec.eq_of_toNat_eq he)
    rw [emitTx_txPos, emitTx_txLen]
    omega
  case atEnd => simpa using hidle

theorem BlockInv.resetBlock (s : State) : BlockInv s.resetBlock where
  idxBelowCount := nofun
  causeNoneIffNoError := by simp
  busyInRange := nofun
  idleAtEnd := by simp
  loadedIsCanonical := by simp
  publishedIsValid := nofun

/-! ### The invariant under every operation and every step -/

/-- Every operation keeps the invariant, selected or not. -/
theorem BlockInv.exec {i : Instr} {s t : State} (h : BlockInv s) (ht : exec i s = .next t) : BlockInv t := by
  by_cases hi : contextOf i = .outside
  · obtain ⟨a, ha, -⟩ := exec_of_outside hi
    cases (ha s).symm.trans ht
    exact h.answering a
  cases i with
  | rxStart => cases ht; exact h.goTo nofun
  | rxSkip b => cases ht; exact h.answering _
  | rxAddr b => cases ht; exact h.captureAddress b
  | rxCtrl b => cases ht; exact h.captureControl b
  | rxData b => exact h.captureData (execRxData_cases ht)
  | rxCrc b => cases ht; exact h.captureChecksum b
  | rxStop => cases ht; exact h.closeFrame
  | rxBadstop b => cases ht; exact h.raise nofun
  | rxLineErr => cases ht; exact h.raise nofun
  | hostAck => cases ht; exact h.clearReady.answering _
  | hostClrerr => cases ht; exact h.clearError.answering _
  | hostRead =>
    obtain ⟨-, rfl⟩ | ⟨-, rfl⟩ := execHostRead_cases ht
    all_goals exact h.answering _
  | txLoad dir addr p =>
    obtain ⟨-, rfl⟩ | ⟨-, rfl⟩ := execTxLoad_cases ht
    · exact h.answering _
    · exact h.loadTx dir addr p
  | txNext =>
    obtain ⟨-, rfl⟩ | ⟨b, hb, -, rfl⟩ := execTxNext_cases ht
    · exact h.answering _
    · exact h.emitTx hb b
  | reset => cases ht; exact BlockInv.resetBlock s
  | _ => exact absurd rfl hi

/-- The outstanding events, the line and the count of free values are no part of the invariant. -/
theorem BlockInv.fetch {s u : State} {x : Input} (h : BlockInv s) (hf : s.fetch = some (x, u)) : BlockInv u := by
  obtain ⟨rest, -, -, rfl⟩ | ⟨b, k, -, -, rfl⟩ | ⟨rest, -, -, -, rfl⟩ := fetch_cases hf
  all_goals exact { h with }

theorem BlockInv.hearOwn {s : State} (h : BlockInv s) : BlockInv s.hearOwn := by
  obtain he | ⟨b, -, -, he⟩ := hearOwn_cases s <;> rw [he]
  · exact h
  · exact { h with }

/-- Settles O52: a step fetches an item, runs its operation and listens, each of which keeps the invariant. -/
theorem everyStepKeepsTheInvariant : Obligations.EveryStepKeepsTheInvariant := by
  unfold Obligations.EveryStepKeepsTheInvariant
  intro s t h ht
  cases hf : s.fetch with
  | none =>
    cases (step_of_fetch_none hf).symm.trans ht
    exact h.answering _
  | some p =>
    obtain ⟨i, u, -, hu, rfl⟩ := takeItem_cases ((step_of_fetch hf).symm.trans ht)
    exact ((h.fetch hf).exec hu).hearOwn

end Sys2Proof.Machine
end

section
/-! PROOFS. 10_state.md, 70_reset_and_hazards.md: no step shows a register that holds no value of its own (O54). -/

namespace Sys2Proof.Machine

/-! ### The candidate frame, state by state -/

section Candidate
variable {s t : State}

theorem sameCandidate_waitStart (h : s.rxState = .waitStart) : SameCandidate s t := by
  rw [SameCandidate, h]
  trivial

theorem sameCandidate_readAddress (h : s.rxState = .readAddress) : SameCandidate s t := by
  rw [SameCandidate, h]
  trivial

theorem sameCandidate_readControl (h : s.rxState = .readControl) : SameCandidate s t ↔ s.rxAddr = t.rxAddr := by
  rw [SameCandidate, h]

theorem sameCandidate_readData (h : s.rxState = .readData) :
    SameCandidate s t ↔ s.rxAddr = t.rxAddr ∧ s.rxCtrl = t.rxCtrl ∧ s.rxIdx = t.rxIdx ∧
      s.rxData.first s.rxIdx = t.rxData.first s.rxIdx := by
  rw [SameCandidate, h]

theorem sameCandidate_readCrc (h : s.rxState = .readCrc) :
    SameCandidate s t ↔ s.rxAddr = t.rxAddr ∧ s.rxCtrl = t.rxCtrl ∧
      s.rxData.first (ctlCount s.rxCtrl) = t.rxData.first (ctlCount s.rxCtrl) := by
  rw [SameCandidate, h]

theorem sameCandidate_expectStop (h : s.rxState = .expectStop) :
    SameCandidate s t ↔ s.rxAddr = t.rxAddr ∧ s.rxCtrl = t.rxCtrl ∧ s.rxCrc = t.rxCrc ∧
      s.rxData.first (ctlCount s.rxCtrl) = t.rxData.first (ctlCount s.rxCtrl) := by
  rw [SameCandidate, h]

end Candidate

/-! ### Register arrays up to a count -/

/-- The elements up to and with the one just written are those before it, then the value written. -/
theorem first_set_succ {x y : Bytes3} {i : BitVec 2} {v : Byte} (h : x.set i.toNat v = some y) :
    y.first (i + 1) = x.first i ++ [v] := by
  have hi : i.toNat + 1 < 4 := by obtain ⟨hi, -⟩ | ⟨hi, -⟩ | ⟨hi, -⟩ := set_cases h <;> omega
  have hsucc : (i + 1).toNat = i.toNat + 1 := toNat_succ_of_lt (n := 3) (Nat.lt_of_succ_lt_succ hi)
  unfold Bytes3.first
  rw [hsucc]
  obtain ⟨hi, rfl⟩ | ⟨hi, rfl⟩ | ⟨hi, rfl⟩ := set_cases h <;> rw [hi] <;> rfl

/-- Below a common length, arrays that agree up to it have the same elements. -/
theorem get_of_first_eq {x y : Bytes8} {n : BitVec 4} {i : Nat} (h : x.first n = y.first n) (hi : i < n.toNat) :
    x.get i = y.get i :=
  calc x.get i = (x.first n)[i]? := (List.getElem?_take_of_lt hi).symm
    _ = (y.first n)[i]? := by rw [h]
    _ = y.get i := List.getElem?_take_of_lt hi

/-- `VALIDATE` reads the data bytes that the control byte counts, and no others (40_codec.md R110). -/
theorem validateFrame_congr {c aw k : Byte} {x y : Bytes3} (h : x.first (ctlCount c) = y.first (ctlCount c)) :
    validateFrame c aw x k = validateFrame c aw y k := by
  obtain ⟨hx, hvx⟩ | ⟨hx, hvx⟩ := validateFrame_cases c aw x k <;>
    obtain ⟨hy, hvy⟩ | ⟨hy, hvy⟩ := validateFrame_cases c aw y k
  · rw [hvx, hvy, h]
  · exact absurd (h ▸ hx) hy
  · exact absurd (h ▸ hy) hx
  · rw [hvx, hvy]

/-- Two candidates that agree on every byte received get the same verdict. -/
theorem validated_congr {s t : State} (haddr : s.rxAddr = t.rxAddr) (hctrl : s.rxCtrl = t.rxCtrl)
    (hcrc : s.rxCrc = t.rxCrc) (hdata : s.rxData.first (ctlCount s.rxCtrl) = t.rxData.first (ctlCount s.rxCtrl)) :
    s.validated = t.validated := by
  rw [State.validated, State.validated, ← haddr, ← hctrl, ← hcrc]
  exact validateFrame_congr hdata

/-! ### The same view under the shared updates of the registers -/

section View
variable {s t : State}

theorem SameView.answering (h : SameView s t) (a : Answer) : SameView (s.answering a) (t.answering a) := { h with }

/-- Back in `WAIT_START`, or at the address byte, the candidate frame has no byte. -/
theorem SameView.goTo (h : SameView s t) {st : RxState} (hst : st = .waitStart ∨ st = .readAddress) :
    SameView (s.goTo st) (t.goTo st) :=
  { h with
    rxState := rfl
    candidate := by
      obtain rfl | rfl := hst
      · exact sameCandidate_waitStart rfl
      · exact sameCandidate_readAddress rfl }

theorem SameView.raise (h : SameView s t) (c : Cause) : SameView (s.raise c) (t.raise c) :=
  { h with
    rxState := rfl
    candidate := sameCandidate_waitStart rfl
    rxError := rfl
    rxCause := rfl }

theorem SameView.clearError (h : SameView s t) : SameView s.clearError t.clearError :=
  { h with
    rxError := rfl
    rxCause := rfl }

theorem SameView.clearReady (h : SameView s t) : SameView s.clearReady t.clearReady :=
  { h with
    frameReady := rfl
    published := nofun }

theorem SameView.captureAddress (h : SameView s t) (b : Byte) :
    SameView (s.captureAddress .addrFirst b) (t.captureAddress .addrFirst b) :=
  { h with
    rxState := rfl
    candidate := (sameCandidate_readControl rfl).mpr rfl }

/-- The control byte makes the index 0, and no data byte counts yet. -/
theorem SameView.captureControl (h : SameView s t) (hst : s.rxState = .readControl) (b : Byte) :
    SameView (s.captureControl .addrFirst b) (t.captureControl .addrFirst b) := by
  have haddr : s.rxAddr = t.rxAddr := (sameCandidate_readControl hst).mp h.candidate
  refine { h with rxState := rfl, candidate := ?_ }
  obtain ⟨hnext, -⟩ | ⟨hnext, hn⟩ := afterHeader_cases b
  · exact (sameCandidate_readData hnext).mpr ⟨haddr, rfl, rfl, rfl⟩
  · exact (sameCandidate_readCrc hnext).mpr ⟨haddr, rfl, by simp [Bytes3.first, hn]⟩

/-- Both write the same byte at the same index; after the last data byte the index is one below the count. -/
theorem SameView.captureData (h : SameView s t) (hs : BlockInv s) (hst : s.rxState = .readData) (b : Byte) :
    ∃ u v, s.captureData b = some u ∧ t.captureData b = some v ∧ SameView u v ∧ u.answer = v.answer := by
  obtain ⟨haddr, hctrl, hidx, hdata⟩ := (sameCandidate_readData hst).mp h.candidate
  have hlt : s.rxIdx.toNat < (ctlCount s.rxCtrl).toNat := hs.idxBelowCount hst
  have hthree : s.rxIdx.toNat < 3 := by
    have hn : (ctlCount s.rxCtrl).toNat < 4 := (ctlCount s.rxCtrl).isLt
    omega
  obtain ⟨u, hu⟩ := captureData_exists b hthree
  obtain ⟨v, hv⟩ := captureData_exists (s := t) b (hidx ▸ hthree)
  refine ⟨u, v, hu, hv, ?_⟩
  obtain ⟨d, hd, hu'⟩ := captureData_cases hu
  obtain ⟨e, he, hv'⟩ := captureData_cases hv
  rw [← hidx] at he
  rw [← hidx, ← hctrl] at hv'
  have hfirst : d.first (s.rxIdx + 1) = e.first (s.rxIdx + 1) := by
    rw [first_set_succ hd, first_set_succ he, hdata]
  obtain ⟨hm, rfl⟩ | ⟨hm, rfl⟩ := hu'
  · obtain ⟨-, rfl⟩ | ⟨hm', -⟩ := hv'
    · refine ⟨{ h with candidate := ?_ }, rfl⟩
      exact (sameCandidate_readData (by exact hst)).mpr ⟨haddr, rfl, rfl, hfirst⟩
    · exact absurd hm hm'
  · obtain ⟨hm', -⟩ | ⟨-, rfl⟩ := hv'
    · exact absurd hm' hm
    · have hcount : ctlCount s.rxCtrl = s.rxIdx + 1 := BitVec.eq_of_toNat_eq (by
        rw [toNat_succ_of_lt hlt]
        omega)
      refine ⟨{ h with rxState := rfl, candidate := ?_ }, rfl⟩
      exact (sameCandidate_readCrc rfl).mpr ⟨haddr, rfl, by rw [hcount]; exact hfirst⟩

theorem SameView.captureChecksum (h : SameView s t) (hst : s.rxState = .readCrc) (b : Byte) :
    SameView (s.captureChecksum b) (t.captureChecksum b) := by
  obtain ⟨haddr, hctrl, hdata⟩ := (sameCandidate_readCrc hst).mp h.candidate
  exact { h with
    rxState := rfl
    candidate := (sameCandidate_expectStop rfl).mpr ⟨haddr, hctrl, rfl, hdata⟩ }

/-- Both candidates get the same verdict, and what a publication writes comes from it and from bytes that agree. -/
theorem SameView.closeFrame (h : SameView s t) (hst : s.rxState = .expectStop) :
    SameView s.closeFrame t.closeFrame ∧ s.closeFrame.answer = t.closeFrame.answer := by
  obtain ⟨haddr, hctrl, hcrc, hdata⟩ := (sameCandidate_expectStop hst).mp h.candidate
  have hval : s.validated = t.validated := validated_congr haddr hctrl hcrc hdata
  obtain ⟨f, hf, hs⟩ | ⟨hf, hs⟩ := closeFrame_cases s
  · have ht : t.closeFrame = t.publish f := by rw [State.closeFrame, ← hval, hf]
    rw [hs, ht]
    exact ⟨{ h with
      rxState := rfl
      candidate := sameCandidate_waitStart rfl
      frameReady := rfl
      published := fun _ => by rw [publish_publishedFrame hf, publish_publishedFrame (hval ▸ hf)]
      freeCount := by rw [publish_freeCount, publish_freeCount, h.freeCount] }, rfl⟩
  · have ht : t.closeFrame = t.raise .checksum := by rw [State.closeFrame, ← hval, hf]
    rw [hs, ht]
    exact ⟨h.raise .checksum, rfl⟩

/-- A load fills both buffers alike, the free values past the frame included. -/
theorem SameView.loadTx (h : SameView s t) (l : List Byte) : SameView (s.loadTx l) (t.loadTx l) :=
  { h with
    txBusy := rfl
    txLen := rfl
    txPos := rfl
    txBuf := fun _ => by simp [h.freeCount]
    freeCount := by simp [h.freeCount] }

theorem SameView.emitTx (h : SameView s t) (hb : s.txBusy = true) (b : Byte) :
    SameView (s.emitTx b) (t.emitTx b) :=
  { h with
    txBusy := by simp [h.txPos, h.txLen]
    txPos := by simp [h.txPos]
    txBuf := fun _ => h.txBuf hb }

theorem SameView.resetBlock (h : SameView s t) : SameView s.resetBlock t.resetBlock :=
  { h with
    rxState := rfl
    candidate := sameCandidate_waitStart rfl
    frameReady := rfl
    published := nofun
    rxError := rfl
    rxCause := rfl
    txBusy := rfl
    txLen := rfl
    txPos := rfl
    txBuf := nofun
    freeCount := by simp [h.freeCount] }

/-! ### The same view under every operation -/

/-- Neither RX.DATA faults: the index is below the count. -/
theorem SameView.execRxData (h : SameView s t) (hs : BlockInv s) (hst : s.rxState = .readData) (b : Byte) :
    SameOutcome (execRxData b s) (execRxData b t) := by
  obtain ⟨u, v, hu, hv, huv⟩ := h.captureData hs hst b
  unfold Machine.execRxData
  rw [hu, hv]
  exact huv

/-- HOST.READ reads the published frame only while there is one. -/
theorem SameView.execHostRead (h : SameView s t) : SameOutcome (execHostRead s) (execHostRead t) := by
  unfold Machine.execHostRead
  rw [← h.frameReady]
  split
  · rw [← h.published ‹_›]
    exact ⟨h.answering _, rfl⟩
  · exact ⟨h.answering _, rfl⟩

theorem SameView.execTxLoad (h : SameView s t) (dir : Bool) (addr : Byte) (p : Payload) :
    SameOutcome (execTxLoad dir addr p s) (execTxLoad dir addr p t) := by
  unfold Machine.execTxLoad
  rw [← h.txBusy]
  split
  · exact ⟨h.answering _, rfl⟩
  · exact ⟨h.loadTx _, rfl⟩

/-- A busy transmitter reads its buffer below its length only. -/
theorem SameView.execTxNext (h : SameView s t) (hs : BlockInv s) : SameOutcome (execTxNext s) (execTxNext t) := by
  unfold Machine.execTxNext
  rw [← h.txBusy, ← h.txPos]
  split
  · rename_i hb
    obtain ⟨-, -, hpos⟩ := hs.busyInRange hb
    rw [← get_of_first_eq (h.txBuf hb) hpos]
    split
    · exact ⟨h.emitTx hb _, rfl⟩
    · rfl
  · exact ⟨h.answering _, rfl⟩

/-- Every operation that the present `rx_state` selects answers alike in states of the same view. -/
theorem SameView.exec (h : SameView s t) (hs : BlockInv s) {i : Instr} (hsel : i.selectedIn s.rxState = true) :
    SameOutcome (exec i s) (exec i t) := by
  by_cases hi : contextOf i = .outside
  · obtain ⟨a, ha, -⟩ := exec_of_outside hi
    rw [ha, ha]
    exact ⟨h.answering a, rfl⟩
  cases i with
  | rxStart => exact ⟨h.goTo (.inr rfl), rfl⟩
  | rxSkip b => exact ⟨h.answering _, rfl⟩
  | rxAddr b => exact ⟨h.captureAddress b, rfl⟩
  | rxCtrl b => exact ⟨h.captureControl (eq_of_beq hsel) b, rfl⟩
  | rxData b => exact h.execRxData hs (eq_of_beq hsel) b
  | rxCrc b => exact ⟨h.captureChecksum (eq_of_beq hsel) b, rfl⟩
  | rxStop => exact h.closeFrame (eq_of_beq hsel)
  | rxBadstop b => exact ⟨h.raise _, rfl⟩
  | rxLineErr => exact ⟨h.raise _, rfl⟩
  | hostAck => exact ⟨h.clearReady.answering _, rfl⟩
  | hostClrerr => exact ⟨h.clearError.answering _, rfl⟩
  | hostRead => exact h.execHostRead
  | txLoad dir addr p => exact h.execTxLoad dir addr p
  | txNext => exact h.execTxNext hs
  | reset => exact ⟨h.resetBlock, rfl⟩
  | _ => exact absurd rfl hi

end View

/-! ### What an item selects -/

/-- A function is selected in every state. -/
theorem selectedIn_of_isFunc {i : Instr} (h : i.isFunc = true) (st : RxState) : i.selectedIn st = true := by
  cases i with
  | isdelim | esc | unesc | ctlpack | ctlunpack | crcgen | encode | validate | decode => rfl
  | _ => cases h

/-- An event selects an operation of the present `rx_state` (30_encoding.md R82). -/
theorem decodeEvent_selectedIn (st : RxState) (ev : BitVec 12) (txop : BitVec 35) :
    (decodeEvent st ev txop).selectedIn st = true := by
  unfold decodeEvent
  split
  case h_1 => exact decodeRxByte_selectedIn st (evByte ev)
  all_goals rfl

/-- What an item decodes to is an operation of the present `rx_state`. -/
theorem decode_selectedIn {st : RxState} {x : Input} {i : Instr} (h : decode st x = .ok i) :
    i.selectedIn st = true := by
  cases x with
  | event ev txop =>
    cases h
    exact decodeEvent_selectedIn st ev txop
  | byte8 b =>
    cases h
    unfold decodeByte8
    split
    · rfl
    · split <;> rfl
  | call j =>
    by_cases hj : j.isFunc = true
    · rw [decode, if_pos hj] at h
      cases h
      exact selectedIn_of_isFunc hj st
    · rw [decode, if_neg hj] at h
      cases h

/-! ### The same view under every step -/

section Step
variable {s t : State}

/-- Listening depends on the answer alone. -/
theorem SameView.hearOwn (h : SameView s t) (ha : s.answer = t.answer) : SameView s.hearOwn t.hearOwn := by
  by_cases hb : ∃ b, s.answer = .emits (.txByte b)
  · obtain ⟨b, hb⟩ := hb
    have hear : ∀ u : State, u.answer = .emits (.txByte b) →
        u.hearOwn = if Config.loopback then { u with echo := some b } else u := fun u hu => by rw [State.hearOwn, hu]
    rw [hear s hb, hear t (ha ▸ hb)]
    split
    · exact { h with echo := rfl }
    · exact h
  · have hno : ∀ b, s.answer ≠ .emits (.txByte b) := fun b hs => hb ⟨b, hs⟩
    rw [hearOwn_of_no_txByte hno, hearOwn_of_no_txByte (ha ▸ hno)]
    exact h

/-- An item selects the same operation in both states, or is rejected in both. -/
theorem SameView.deliver (h : SameView s t) (hs : BlockInv s) (x : Input) :
    SameOutcome (deliver x s) (deliver x t) := by
  unfold Machine.deliver
  rw [← h.rxState]
  cases hd : decode s.rxState x with
  | error e => exact rfl
  | ok i => exact h.exec hs (decode_selectedIn hd)

/-- Alike outcomes stay alike when the block has heard its own byte. -/
theorem SameView.takeItem (h : SameView s t) (hs : BlockInv s) (x : Input) :
    SameOutcome (takeItem x s) (takeItem x t) := by
  have hd := h.deliver hs x
  unfold Machine.takeItem
  generalize Machine.deliver x s = o at hd ⊢
  generalize Machine.deliver x t = o' at hd ⊢
  cases o with
  | next u =>
    cases o' with
    | next v =>
      obtain ⟨huv, ha⟩ := hd
      exact ⟨huv.hearOwn ha, by rw [hearOwn_answer, hearOwn_answer, ha]⟩
    | fault | refused => exact hd
  | fault | refused => cases o' <;> exact hd

/-- The outstanding events, the byte on the line and the count of free values may be any that both states share. -/
theorem SameView.atLine (h : SameView s t) (l : List Input) (e : Option Byte) (k : Nat) :
    SameView { s with input := l, echo := e, freeCount := k } { t with input := l, echo := e, freeCount := k } :=
  { h with input := rfl, echo := rfl, freeCount := rfl }

/-- Which item comes next is decided by registers that agree. -/
theorem SameView.fetch (h : SameView s t) :
    (s.fetch = none ∧ t.fetch = none) ∨
    ∃ x u v, s.fetch = some (x, u) ∧ t.fetch = some (x, v) ∧ SameView u v := by
  have hw : ∀ x, t.wouldEmit x = s.wouldEmit x := fun x => by cases x <;> simp [State.wouldEmit, h.txBusy]
  unfold State.fetch
  rw [← h.echo, ← h.input, ← h.freeCount]
  cases s.echo with
  | none =>
    cases s.input with
    | nil => exact .inl ⟨rfl, rfl⟩
    | cons x rest => exact .inr ⟨x, _, _, rfl, rfl, h.atLine _ _ _⟩
  | some b =>
    cases s.input with
    | nil => exact .inr ⟨_, _, _, rfl, rfl, h.atLine _ _ _⟩
    | cons x rest =>
      simp only [hw]
      split
      · exact .inr ⟨_, _, _, rfl, rfl, h.atLine _ _ _⟩
      · exact .inr ⟨_, _, _, rfl, rfl, h.atLine _ _ _⟩

end Step

/-- Settles O54: both states fetch the same item, which selects the same operation, and no operation that is selected
reads a register outside the view. -/
theorem unspecifiedRegistersAreUnobservable : Obligations.UnspecifiedRegistersAreUnobservable := by
  unfold Obligations.UnspecifiedRegistersAreUnobservable
  intro s t hs h
  obtain ⟨hsf, htf⟩ | ⟨x, u, v, hsf, htf, huv⟩ := h.fetch
  · rw [step_of_fetch_none hsf, step_of_fetch_none htf]
    exact ⟨h.answering _, rfl⟩
  · rw [step_of_fetch hsf, step_of_fetch htf]
    exact huv.takeItem (hs.fetch hsf) x

end Sys2Proof.Machine
end

section
/-! PROOFS. 30_encoding.md: the decoder and the encoder (O55, O57), the opcode table's rows (O56), the reserved kinds (O43),
the word placed for the next step (O49), and the bytes of an encoded frame (O9). -/

namespace Sys2Proof.Machine

/-! ### The control byte's fields and `txop` (30_encoding.md R72, R81) -/

/-- Every field and the reserved bit have places of their own in the control byte (30_encoding.md R72). -/
theorem ctlLayout_fields (rsv : Bool) (f : CtlFields) :
    (ctlLayout rsv f).getLsbD 5 = rsv ∧ ctlFieldsOf (ctlLayout rsv f) = f := by
  have hall : ∀ (rsv dir fa f0 f1 f2 : Bool) (n : BitVec 2),
      (ctlLayout rsv ⟨dir, fa, f0, f1, f2, n⟩).getLsbD 5 = rsv ∧
        ctlFieldsOf (ctlLayout rsv ⟨dir, fa, f0, f1, f2, n⟩) = ⟨dir, fa, f0, f1, f2, n⟩ := by decide
  obtain ⟨dir, fa, f0, f1, f2, n⟩ := f
  exact hall rsv dir fa f0 f1 f2 n

@[simp] theorem ctlLayout_reserved (rsv : Bool) (f : CtlFields) : (ctlLayout rsv f).getLsbD 5 = rsv :=
  (ctlLayout_fields rsv f).1

@[simp] theorem ctlFieldsOf_ctlLayout (rsv : Bool) (f : CtlFields) : ctlFieldsOf (ctlLayout rsv f) = f :=
  (ctlLayout_fields rsv f).2

/-- Only the fields that R135 reads from `0x96` are laid out as it (41_receiver.md R135). -/
theorem ctlLayout_ne_start {rsv : Bool} {f : CtlFields} (h : f ≠ startFields) : ctlLayout rsv f ≠ Config.START := by
  intro he
  have hf : ctlFieldsOf (ctlLayout rsv f) = startFields := by rw [he]; decide
  exact h ((ctlFieldsOf_ctlLayout rsv f).symm.trans hf)

/-- `STOP` has bit 5 set, which a control byte does not (30_encoding.md R72). -/
theorem ctlLayout_ne_stop (f : CtlFields) : ctlLayout false f ≠ Config.STOP := by
  intro he
  have hbit : (ctlLayout false f).getLsbD 5 = true := by rw [he]; decide
  rw [ctlLayout_reserved] at hbit
  cases hbit

/-- A control byte that is not `START` is read back from its byte format (30_encoding.md R83). -/
theorem decodeByte8_ctlLayout {f : CtlFields} (h : f ≠ startFields) :
    decodeByte8 (ctlLayout false f) = .ctrlByte false f := by
  rw [decodeByte8, if_neg (ctlLayout_ne_start h), if_neg (ctlLayout_ne_stop f), ctlLayout_reserved,
    ctlFieldsOf_ctlLayout]

/-- `txop` is its operands laid end to end, so each is found above the ones after it (30_encoding.md R81). -/
theorem decodeTxop_txopOf (dir : Bool) (addr : Byte) (p : Payload) :
    decodeTxop (txopOf dir addr p) = .txLoad dir addr p := by
  have hdir : (txopOf dir addr p).getLsbD 34 = dir := by
    unfold txopOf
    iterate 5 rw [BitVec.getLsbD_append, if_neg (by decide)]
    simp
  have hn : (txopOf dir addr p).extractLsb' 32 2 = p.n := by
    unfold txopOf
    iterate 4 rw [BitVec.extractLsb'_append_eq_of_le (by decide)]
    exact BitVec.extractLsb'_append_eq_right
  have haddr : (txopOf dir addr p).extractLsb' 24 8 = addr := by
    unfold txopOf
    iterate 3 rw [BitVec.extractLsb'_append_eq_of_le (by decide)]
    exact BitVec.extractLsb'_append_eq_right
  have hd2 : (txopOf dir addr p).extractLsb' 16 8 = p.d2 := by
    unfold txopOf
    iterate 2 rw [BitVec.extractLsb'_append_eq_of_le (by decide)]
    exact BitVec.extractLsb'_append_eq_right
  have hd1 : (txopOf dir addr p).extractLsb' 8 8 = p.d1 := by
    unfold txopOf
    rw [BitVec.extractLsb'_append_eq_of_le (by decide)]
    exact BitVec.extractLsb'_append_eq_right
  have hd0 : (txopOf dir addr p).extractLsb' 0 8 = p.d0 := BitVec.extractLsb'_append_eq_right
  rw [decodeTxop, hdir, hn, haddr, hd2, hd1, hd0]

/-! ### The decoder undoes the encoder -/

/-- In `WAIT_START` every byte but `START` is skipped (30_encoding.md R82). -/
theorem decodeRxByte_waitStart_of_ne {b : Byte} (h : b ≠ Config.START) : decodeRxByte .waitStart b = .rxSkip b :=
  if_neg h

/-- In `EXPECT_STOP` every byte but `STOP` is a bad stop (30_encoding.md R82). -/
theorem decodeRxByte_expectStop_of_ne {b : Byte} (h : b ≠ Config.STOP) : decodeRxByte .expectStop b = .rxBadstop b :=
  if_neg h

/-- The four reserved kinds 8 to 0xB carry their low bits as the operand (30_encoding.md R84). -/
theorem decodeEvent_reserved8B (st : RxState) (k : BitVec 2) (b : Byte) (txop : BitVec 35) :
    decodeEvent st (evWord (2#2 ++ k) b) txop = .evReserved8B k := by
  have hk : k = 0 ∨ k = 1 ∨ k = 2 ∨ k = 3 := by revert k; decide
  rw [decodeEvent, evWord, evKind_append]
  obtain rfl | rfl | rfl | rfl := hk <;> rfl

/-- The two reserved kinds 0xC and 0xD carry their low bit as the operand (30_encoding.md R84). -/
theorem decodeEvent_reservedCD (st : RxState) (k : BitVec 1) (b : Byte) (txop : BitVec 35) :
    decodeEvent st (evWord (6#3 ++ k) b) txop = .evReservedCD k := by
  have hk : k = 0 ∨ k = 1 := by revert k; decide
  rw [decodeEvent, evWord, evKind_append]
  obtain rfl | rfl := hk <;> rfl

/-- Settles O55: the receiver's operations are told apart by the state that selects them, the other events by their kind,
and the operands of TX.LOAD and of a control byte are read back from their places. -/
theorem decodeUndoesEncodeOfEveryOperation : Obligations.DecodeUndoesEncodeOfEveryOperation := by
  unfold Obligations.DecodeUndoesEncodeOfEveryOperation
  intro i st hwf hsel
  cases i with
  | rxSkip b =>
    cases eq_of_beq hsel
    exact (decode_rxByte _ b).trans (congrArg _ (decodeRxByte_waitStart_of_ne (bne_iff_ne.mp hwf)))
  | rxBadstop b =>
    cases eq_of_beq hsel
    exact (decode_rxByte _ b).trans (congrArg _ (decodeRxByte_expectStop_of_ne (bne_iff_ne.mp hwf)))
  | rxStart | rxAddr | rxCtrl | rxData | rxCrc | rxStop =>
    cases eq_of_beq hsel
    exact decode_rxByte _ _
  | txLoad dir addr p => exact congrArg _ (decodeTxop_txopOf dir addr p)
  | evReserved8B k => exact congrArg _ (decodeEvent_reserved8B st k 0 0)
  | evReservedCD k => exact congrArg _ (decodeEvent_reservedCD st k 0 0)
  | ctrlByte rsv f =>
    simp only [Instr.wf, Bool.and_eq_true, Bool.not_eq_true', bne_iff_ne] at hwf
    obtain ⟨rfl, hf⟩ := hwf
    exact congrArg _ (decodeByte8_ctlLayout hf)
  | _ => rfl

/-- Settles O57. -/
theorem writtenOutWordsDecode : Obligations.WrittenOutWordsDecode := by
  unfold Obligations.WrittenOutWordsDecode
  decide

/-! ### The opcode table's rows (30_encoding.md R83) -/

/-- A row is matched against the kind and the operand byte apart. -/
theorem fits_append (r : EventRow) (k : BitVec 4) (b : Byte) :
    r.fits (k ++ b) = true ↔
      k &&& evKind r.mask = evKind r.pattern ∧ b &&& evByte r.mask = evByte r.pattern := by
  obtain ⟨mk, mb, hm⟩ := event_split r.mask
  obtain ⟨pk, pb, hp⟩ := event_split r.pattern
  rw [EventRow.fits, hm, hp, BitVec.and_append, beq_iff_eq]
  simp only [evKind_append, evByte_append]
  constructor
  · intro h
    exact ⟨by simpa using congrArg evKind h, by simpa using congrArg evByte h⟩
  · rintro ⟨hk, hb⟩
    rw [hk, hb]

/-- A row is a received byte's, or applies in every state and leaves the operand byte open. -/
theorem eventRows_kinds : ∀ r ∈ eventRows,
    (evKind r.mask = 0xF ∧ evKind r.pattern = 0) ∨ (r.state = none ∧ evByte r.mask = 0) := by decide

/-- A row for received bytes fits no other kind. -/
theorem not_fits_of_kind_ne_zero {r : EventRow} (hm : evKind r.mask = 0xF) (hp : evKind r.pattern = 0) {k : BitVec 4}
    (hk : k ≠ 0) (b : Byte) : r.fits (k ++ b) = false := by
  rw [← Bool.not_eq_true, fits_append, hm, hp]
  rintro ⟨h, -⟩
  exact hk ((BitVec.and_allOnes (x := k)).symm.trans h)

/-- The row of an event that is no received byte depends on its kind alone. -/
theorem rowOf_of_kind_ne_zero {k : BitVec 4} (hk : k ≠ 0) (st : RxState) (b : Byte) :
    rowOf st (k ++ b) = rowOf .waitStart (k ++ 0#8) := by
  refine List.find?_congr fun r hr => ?_
  obtain ⟨hm, hp⟩ | ⟨hany, hopen⟩ := eventRows_kinds r hr
  · rw [not_fits_of_kind_ne_zero hm hp hk, not_fits_of_kind_ne_zero hm hp hk, Bool.and_false, Bool.and_false]
  · have happ : ∀ st, r.appliesIn st = true := fun st => by rw [EventRow.appliesIn, hany]
    have hfit : r.fits (k ++ b) = r.fits (k ++ 0#8) := by
      rw [Bool.eq_iff_iff, fits_append, fits_append, hopen, BitVec.ofNat_eq_ofNat, BitVec.and_zero, BitVec.and_zero]
    rw [happ, happ, hfit]

/-- The mnemonic of the operation that such an event selects depends on its kind alone. -/
theorem decodeEvent_mnemonic_of_kind_ne_zero {k : BitVec 4} (hk : k ≠ 0) (st : RxState) (b : Byte) (txop : BitVec 35) :
    (decodeEvent st (k ++ b) txop).mnemonic = (decodeEvent .waitStart (k ++ 0#8) 0).mnemonic := by
  simp only [decodeEvent, evKind_append]
  split
  case h_1 h => exact absurd (BitVec.eq_of_toNat_eq h) hk
  all_goals rfl

/-- Each of the kinds 1 to 15 has its row. -/
theorem rowOf_kind : ∀ k : BitVec 4, k ≠ 0 →
    (rowOf .waitStart (k ++ 0#8)).map EventRow.mnemonic =
      some (decodeEvent .waitStart (k ++ 0#8) 0).mnemonic := by decide

/-- A row that names one received byte fits that byte alone. -/
theorem not_fits_of_ne {r : EventRow} {b d : Byte} (hm : evByte r.mask = 0xFF) (hp : evByte r.pattern = d)
    (hb : b ≠ d) : r.fits (evWord 0x0 b) = false := by
  rw [← Bool.not_eq_true, evWord, fits_append, hm, hp]
  rintro ⟨-, h⟩
  exact hb ((BitVec.and_allOnes (x := b)).symm.trans h)

/-- The rows of the present state are tried in their order. -/
theorem rowOf_eq_find (st : RxState) (ev : BitVec 12) :
    rowOf st ev = (eventRows.filter (·.appliesIn st)).find? (·.fits ev) := by
  simp [rowOf, List.find?_filter]

/-- The first of a state's rows is taken when it fits. -/
theorem rowOf_of_first {st : RxState} {ev : BitVec 12} {r : EventRow} {rest : List EventRow}
    (hrows : eventRows.filter (·.appliesIn st) = r :: rest) (hr : r.fits ev = true) : rowOf st ev = some r := by
  rw [rowOf_eq_find, hrows]
  exact List.find?_cons_of_pos hr

/-- The second of a state's rows is taken when it fits and the first does not. -/
theorem rowOf_of_second {st : RxState} {ev : BitVec 12} {q r : EventRow} {rest : List EventRow}
    (hrows : eventRows.filter (·.appliesIn st) = q :: r :: rest) (hq : q.fits ev = false) (hr : r.fits ev = true) :
    rowOf st ev = some r := by
  rw [rowOf_eq_find, hrows, List.find?_cons_of_neg (by simp [hq])]
  exact List.find?_cons_of_pos hr

/-- A received byte has the row of the operation it selects, state by state (30_encoding.md R82). -/
theorem rowOf_rxByte (st : RxState) (b : Byte) :
    ∃ r, rowOf st (evWord 0x0 b) = some r ∧ r.mnemonic = (decodeRxByte st b).mnemonic := by
  cases st with
  | readAddress | readControl | readData | readCrc =>
    exact ⟨_, rowOf_of_first rfl (Laws.RowFits.fits_anyByte _ b rfl rfl), rfl⟩
  | waitStart =>
    by_cases hb : b = Config.START
    · subst hb
      exact ⟨_, rowOf_of_first rfl rfl, rfl⟩
    · rw [decodeRxByte_waitStart_of_ne hb]
      exact ⟨_, rowOf_of_second rfl (not_fits_of_ne rfl rfl hb) (Laws.RowFits.fits_anyByte _ b rfl rfl), rfl⟩
  | expectStop =>
    by_cases hb : b = Config.STOP
    · subst hb
      exact ⟨_, rowOf_of_first rfl rfl, rfl⟩
    · rw [decodeRxByte_expectStop_of_ne hb]
      exact ⟨_, rowOf_of_second rfl (not_fits_of_ne rfl rfl hb) (Laws.RowFits.fits_anyByte _ b rfl rfl), rfl⟩

/-- An event has the row of the operation it selects. -/
theorem rowOf_decodeEvent (st : RxState) (ev : BitVec 12) (txop : BitVec 35) :
    ∃ r, rowOf st ev = some r ∧ r.mnemonic = (decodeEvent st ev txop).mnemonic := by
  obtain ⟨k, b, rfl⟩ := event_split ev
  by_cases hk : k = 0#4
  · subst hk
    have hdec : decodeEvent st (0#4 ++ b) txop = decodeRxByte st b := by simp [decodeEvent]
    rw [hdec]
    exact rowOf_rxByte st b
  · rw [rowOf_of_kind_ne_zero hk, decodeEvent_mnemonic_of_kind_ne_zero hk]
    exact Option.map_eq_some_iff.mp (rowOf_kind k hk)

/-! ### What an event decodes to is well-formed -/

theorem decodeRxByte_wf (st : RxState) (b : Byte) : (decodeRxByte st b).wf = true := by
  cases st with
  | readAddress | readControl | readData | readCrc => rfl
  | waitStart =>
    by_cases hb : b = Config.START
    · rw [hb]; rfl
    · rw [decodeRxByte_waitStart_of_ne hb]
      exact bne_iff_ne.mpr hb
  | expectStop =>
    by_cases hb : b = Config.STOP
    · rw [hb]; rfl
    · rw [decodeRxByte_expectStop_of_ne hb]
      exact bne_iff_ne.mpr hb

theorem decodeEvent_wf (st : RxState) (ev : BitVec 12) (txop : BitVec 35) : (decodeEvent st ev txop).wf = true := by
  unfold decodeEvent
  split
  case h_1 => exact decodeRxByte_wf st (evByte ev)
  all_goals rfl

/-- Settles O56: an event always decodes, to an operation of its row, of the present state and well-formed. -/
theorem everyEventSelectsItsTableRow : Obligations.EveryEventSelectsItsTableRow := by
  unfold Obligations.EveryEventSelectsItsTableRow
  intro st ev txop
  obtain ⟨r, hrow, hname⟩ := rowOf_decodeEvent st ev txop
  exact ⟨decodeEvent st ev txop, r, rfl, hrow, hname, decodeEvent_wf st ev txop, decodeEvent_selectedIn st ev txop⟩

/-! ### The reserved kinds (30_encoding.md R84) -/

/-- Kinds 7 to 14 select the reserved rows, whatever the state and the operand byte. -/
theorem decodeEvent_of_reserved_kind {k : BitVec 4} (hlo : 7 ≤ k.toNat) (hhi : k.toNat ≤ 14) (st : RxState) (b : Byte)
    (txop : BitVec 35) :
    decodeEvent st (k ++ b) txop ∈
      [.evReserved7, .evReserved8B 0, .evReserved8B 1, .evReserved8B 2, .evReserved8B 3, .evReservedCD 0,
        .evReservedCD 1, .evReservedE] := by
  rw [decodeEvent, evKind_append]
  generalize k.toNat = n at hlo hhi
  interval_cases n <;> simp

/-- Settles O43. -/
theorem reservedKindsChangeNothing : Obligations.ReservedKindsChangeNothing := by
  unfold Obligations.ReservedKindsChangeNothing
  refine ⟨fun st k b t hlo hhi => ⟨_, rfl, decodeEvent_of_reserved_kind hlo hhi st b t⟩, fun s => ?refused⟩
  case refused => exact ⟨rfl, fun _ => rfl, fun _ => rfl, rfl⟩

/-! ### The word placed for the next step (assumption 7) -/

/-- Of a table word's item, only a received byte is decoded by the state, and that state is the row's own: what it
decodes to does not depend on the state it finds. -/
theorem decode_tableState (st st' : RxState) (x : Input) :
    decode (tableState st x) x = decode (tableState st' x) x := by
  cases x with
  | byte8 b => rfl
  | call i => rfl
  | event ev txop =>
    by_cases hk : evKind ev = 0
    · simp only [tableState, if_pos hk]
    · simp only [tableState, if_neg hk, decode]
      unfold decodeEvent
      split
      case h_1 h => exact absurd (BitVec.eq_of_toNat_eq h) hk
      all_goals rfl

/-- A table word that decodes is an item, and decodes to the same in the state that its row names. -/
theorem decodeTableWord_cases {nbits w : Nat} {i : Instr} (h : decodeTableWord nbits w = some i) :
    ∃ x, tableInput nbits w = some x ∧ ∀ st, decode (tableState st x) x = .ok i := by
  unfold decodeTableWord at h
  split at h
  · cases h
  · rename_i x hx
    split at h
    · rename_i j hj
      cases h
      exact ⟨x, hx, fun st => (decode_tableState st .waitStart x).trans hj⟩
    · cases h

/-- Settles O49: the placed item is the next one taken, in the state that its row names. -/
theorem placedWordRunsNext : Obligations.PlacedWordRunsNext := by
  unfold Obligations.PlacedWordRunsNext
  intro s nbits w i h
  obtain ⟨x, hx, hdec⟩ := decodeTableWord_cases h
  refine ⟨tableState s.rxState x, decode_selectedIn (hdec s.rxState), ?_⟩
  have hplaced : s.withFetchWord nbits w =
      { s with rxState := tableState s.rxState x, input := x :: s.input, echo := none } := by
    rw [State.withFetchWord, placeWord, hx]
  have hrun : deliver x { s with rxState := tableState s.rxState x, echo := none } =
      exec i { s with rxState := tableState s.rxState x, echo := none } := deliver_of_decode (hdec s.rxState)
  rw [hplaced, step_of_fetch (fetch_head rfl rfl), ← hrun]
  rfl

/-! ### The bytes of an encoded frame (30_encoding.md R70, R79, 40_codec.md R109) -/

theorem isDelim_iff (b : Byte) : isDelim b = true ↔ b = Config.START ∨ b = Config.STOP := by
  simp [isDelim]

theorem isDelim_eq_false_iff (b : Byte) : isDelim b = false ↔ b ≠ Config.START ∧ b ≠ Config.STOP := by
  rw [← Bool.not_eq_true, isDelim_iff, not_or]

/-- `ESC` yields no delimiter (40_codec.md R102). -/
theorem isDelim_escape (v : Byte) : isDelim (escape v).1 = false := by
  unfold escape
  split
  · obtain rfl | rfl := (isDelim_iff v).mp ‹_› <;> rfl
  · exact Bool.eq_false_of_not_eq_true ‹_›

/-- `CRCGEN` yields no delimiter (40_codec.md R107). -/
theorem isDelim_crcGen (c aw : Byte) (dw : List Byte) : isDelim (crcGen c aw dw) = false := by
  unfold crcGen
  generalize ~~~ (dw.foldl (· ^^^ ·) (c ^^^ aw)) = k
  dsimp only
  split
  · obtain rfl | rfl := (isDelim_iff k).mp ‹_› <;> rfl
  · exact Bool.eq_false_of_not_eq_true ‹_›

/-- A control byte that `CTLPACK` makes is one of the 60 that R75 lists: direction and address flag are its high half,
the count with the flags of present data bytes its low half. -/
theorem ctlPack_mem_canonicalControls (f : CtlFields) : ctlPack f ∈ canonicalControls := by
  have hhigh : ∀ dir fa : Bool, bitAt dir 7 ||| bitAt fa 6 ∈ [0x00#8, 0x40#8, 0x80#8, 0xC0#8] := by decide
  have hlow : ∀ (f0 f1 f2 : Bool) (n : BitVec 2),
      bitAt (f2 && decide (2 < n.toNat)) 4 ||| bitAt (f1 && decide (1 < n.toNat)) 3 |||
          bitAt (f0 && decide (0 < n.toNat)) 2 ||| n.setWidth 8 ∈
        [0x00#8, 0x01#8, 0x05#8, 0x02#8, 0x06#8, 0x0A#8, 0x0E#8, 0x03#8, 0x07#8, 0x0B#8, 0x0F#8, 0x13#8, 0x17#8,
          0x1B#8, 0x1F#8] := by decide
  refine List.mem_flatMap.mpr ⟨_, hhigh f.dir f.fa, List.mem_map.mpr ⟨_, hlow f.f0 f.f1 f.f2 f.n, ?_⟩⟩
  have hreserved : bitAt false 5 = 0#8 := rfl
  simp only [ctlPack, ctlLayout, maskFlags, hreserved, BitVec.or_zero, BitVec.or_assoc]

/-- `0x96` read as a control byte flags a third data byte and counts two (40_codec.md R104). -/
theorem maskFlags_ne_startFields (f : CtlFields) : maskFlags f ≠ startFields := by
  intro he
  have hn : f.n = 2 := congrArg CtlFields.n he
  have hflag : (f.f2 && decide (2 < f.n.toNat)) = true := congrArg CtlFields.f2 he
  simp [hn] at hflag

/-- A control byte that `CTLPACK` makes is no delimiter (30_encoding.md R79). -/
theorem isDelim_ctlPack (f : CtlFields) : isDelim (ctlPack f) = false :=
  (isDelim_eq_false_iff _).mpr ⟨ctlLayout_ne_start (maskFlags_ne_startFields f), ctlLayout_ne_stop _⟩

/-- `CTLPACK` keeps every field but the flags of absent data bytes (40_codec.md R104). -/
theorem ctlUnpack_ctlPack (f : CtlFields) : ctlUnpack (ctlPack f) = maskFlags f := ctlFieldsOf_ctlLayout _ _

/-- The bytes between the delimiters of an encoded frame. -/
def innerBytes (dir : Bool) (addr : Byte) (data : List Byte) : List Byte :=
  [(escape addr).1, frameControl dir addr data] ++ (data.map fun v => (escape v).1) ++
    [frameCrcAs Config.crcDomain dir addr data]

/-- An encoded frame is its inner bytes between the two delimiters (30_encoding.md R70). -/
theorem encodeFrame_eq_innerBytes (dir : Bool) (addr : Byte) (data : List Byte) :
    encodeFrame dir addr data = [Config.START] ++ innerBytes dir addr data ++ [Config.STOP] := by
  simp [encodeFrame, encodeFrameAs, header, innerBytes]

theorem innerBytes_length (dir : Bool) (addr : Byte) (data : List Byte) :
    (innerBytes dir addr data).length = 3 + data.length := by
  simp [innerBytes]
  omega

/-- Each inner byte is escaped, packed or a checksum, and none of these is a delimiter (40_codec.md R109 (b)). -/
theorem isDelim_of_mem_innerBytes {dir : Bool} {addr : Byte} {data : List Byte} {b : Byte}
    (h : b ∈ innerBytes dir addr data) : isDelim b = false := by
  simp only [innerBytes, List.mem_append, List.mem_cons, List.mem_map, List.not_mem_nil, or_false] at h
  obtain ((rfl | rfl) | ⟨v, -, rfl⟩) | rfl := h
  · exact isDelim_escape addr
  · exact isDelim_ctlPack _
  · exact isDelim_escape v
  · exact isDelim_crcGen _ _ _

/-- The control byte of an encoded frame shows its direction and its data count (40_codec.md R109 (c)). -/
theorem frameControl_fields (dir : Bool) (addr : Byte) (data : List Byte) :
    (frameControl dir addr data).getLsbD 7 = dir ∧
      ctlCount (frameControl dir addr data) = BitVec.ofNat 2 data.length :=
  ⟨congrArg CtlFields.dir (ctlUnpack_ctlPack _), congrArg CtlFields.n (ctlUnpack_ctlPack _)⟩

/-- Settles O9. -/
theorem encodedFrameHasNoInnerDelimiter : Obligations.EncodedFrameHasNoInnerDelimiter := by
  unfold Obligations.EncodedFrameHasNoInnerDelimiter
  intro dir addr data hlen
  obtain ⟨hdir, hcount⟩ := frameControl_fields dir addr data
  refine ⟨innerBytes dir addr data, encodeFrame_eq_innerBytes dir addr data, innerBytes_length dir addr data,
    fun b hb => (isDelim_eq_false_iff b).mp (isDelim_of_mem_innerBytes hb),
    frameControl dir addr data, ctlPack_mem_canonicalControls _, rfl, hdir, ?count⟩
  case count =>
    rw [ctlCount] at hcount
    rw [hcount, BitVec.toNat_ofNat, Nat.mod_eq_of_lt (by omega)]

end Sys2Proof.Machine
end

section
/-! PROOFS. 40_codec.md: escaping, the control byte, the checksum (O1 to O8), VALIDATE and DECODE (O13, O14), ENCODE
(O10 to O12), the function rows (O15), and a frame with a changed checksum at the receiver (O33). -/

namespace Sys2Proof.Machine

/-! ### Delimiters and escaping (40_codec.md R101 to R103) -/

/-- Settles O1. -/
theorem isDelimHoldsOfTheTwoDelimiters : Obligations.IsDelimHoldsOfTheTwoDelimiters := isDelim_iff

theorem escape_of_isDelim {v : Byte} (h : isDelim v = true) : escape v = (v ^^^ 1#8, true) := if_pos h

theorem escape_of_not_isDelim {v : Byte} (h : isDelim v = false) : escape v = (v, false) :=
  if_neg (Bool.not_eq_true _ ▸ h)

/-- The mask is XORed in twice or not at all (40_codec.md R103). -/
theorem unescape_escape (v : Byte) : unescape (escape v).1 (escape v).2 = v := by
  cases h : isDelim v with
  | true => rw [escape_of_isDelim h]; exact (BitVec.xor_assoc v 1#8 1#8).trans BitVec.xor_zero
  | false => rw [escape_of_not_isDelim h]; rfl

/-- Settles O2. -/
theorem escapeStuffsDelimitersOnly : Obligations.EscapeStuffsDelimitersOnly := by
  unfold Obligations.EscapeStuffsDelimitersOnly
  intro v
  exact ⟨fun h => escape_of_isDelim ((isDelim_iff v).mpr h),
    fun h => escape_of_not_isDelim (Bool.eq_false_of_not_eq_true (mt (isDelim_iff v).mp h)), isDelim_escape v⟩

/-- Settles O3. -/
theorem unescapeIsMechanicalAndUndoesEscape : Obligations.UnescapeIsMechanicalAndUndoesEscape :=
  ⟨fun _ => ⟨rfl, rfl⟩, unescape_escape, rfl⟩

/-! ### The control byte (40_codec.md R104, R105, R114) -/

/-- The fields of a laid out control byte, bit by bit (30_encoding.md R72). -/
theorem ctlLayout_bits (rsv : Bool) (f : CtlFields) :
    (ctlLayout rsv f).getLsbD 7 = f.dir ∧ (ctlLayout rsv f).getLsbD 6 = f.fa ∧ (ctlLayout rsv f).getLsbD 5 = rsv ∧
      (ctlLayout rsv f).getLsbD 4 = f.f2 ∧ (ctlLayout rsv f).getLsbD 3 = f.f1 ∧ (ctlLayout rsv f).getLsbD 2 = f.f0 ∧
      (ctlLayout rsv f).extractLsb' 0 2 = f.n := by
  have h : ctlFieldsOf (ctlLayout rsv f) = f := ctlFieldsOf_ctlLayout rsv f
  exact ⟨congrArg CtlFields.dir h, congrArg CtlFields.fa h, ctlLayout_reserved rsv f, congrArg CtlFields.f2 h,
    congrArg CtlFields.f1 h, congrArg CtlFields.f0 h, congrArg CtlFields.n h⟩

/-- Settles O4: the packed byte is the layout of the masked fields. -/
theorem controlPackSetsEachBit : Obligations.ControlPackSetsEachBit := by
  unfold Obligations.ControlPackSetsEachBit
  intro f
  obtain ⟨hdir, hfa, hrsv, hf2, hf1, hf0, hn⟩ := ctlLayout_bits false (maskFlags f)
  exact ⟨hdir, hfa, hrsv, hf2, hf1, hf0, hn, ctlPack_mem_canonicalControls f⟩

/-- Packing gives back a control byte exactly when it is one of R75's 60 (40_codec.md R105). -/
theorem ctlPack_ctlUnpack_iff (c : Byte) : ctlPack (ctlUnpack c) = c ↔ c ∈ canonicalControls := by
  have hall : ∀ c ∈ canonicalControls, ctlPack (ctlUnpack c) = c := by decide
  exact ⟨fun h => h ▸ ctlPack_mem_canonicalControls _, hall c⟩

/-- Settles O5. -/
theorem controlUnpackReadsEachBit : Obligations.ControlUnpackReadsEachBit :=
  ⟨fun _ => rfl, fun f hf => (ctlUnpack_ctlPack f).trans hf, ctlPack_ctlUnpack_iff⟩

/-- The count and the flags of the second and third data byte stand in the low five bits (30_encoding.md R72). -/
theorem fields_of_lowFive_eq {b c : Byte} (h : b.extractLsb' 0 5 = c.extractLsb' 0 5) :
    (ctlFieldsOf b).f1 = (ctlFieldsOf c).f1 ∧ (ctlFieldsOf b).f2 = (ctlFieldsOf c).f2 ∧
      (ctlFieldsOf b).n = (ctlFieldsOf c).n := by
  have hbit : ∀ i < 5, b.getLsbD i = c.getLsbD i := by
    intro i hi
    simpa [hi] using congrArg (BitVec.getLsbD · i) h
  refine ⟨hbit 3 (by decide), hbit 4 (by decide), BitVec.eq_of_getLsbD_eq fun i hi => ?_⟩
  simpa [ctlFieldsOf, ctlCount, hi] using hbit i (by omega)

/-- Settles O8: read as a control byte, `START` counts two data bytes and flags a third, `STOP` counts one and flags a
second, and `CTLPACK` flags no absent byte. -/
theorem packedControlIsDisjointFromDelimiters : Obligations.PackedControlIsDisjointFromDelimiters := by
  unfold Obligations.PackedControlIsDisjointFromDelimiters
  intro f
  have hmask : ctlFieldsOf (ctlPack f) = maskFlags f := ctlUnpack_ctlPack f
  refine ⟨fun h => ?start, fun h => ?stop, isDelim_ctlPack f⟩
  case start =>
    obtain ⟨-, hflag, hn⟩ := fields_of_lowFive_eq h
    rw [hmask] at hflag hn
    have hn : f.n = 2 := hn
    have hflag : (f.f2 && decide (2 < f.n.toNat)) = true := hflag
    simp [hn] at hflag
  case stop =>
    obtain ⟨hflag, -, hn⟩ := fields_of_lowFive_eq h
    rw [hmask] at hflag hn
    have hn : f.n = 1 := hn
    have hflag : (f.f1 && decide (1 < f.n.toNat)) = true := hflag
    simp [hn] at hflag

/-! ### The checksum (40_codec.md R106, R107) -/

/-- `CRCGEN` is a function of the XOR alone (40_codec.md R106). -/
theorem crcGen_eq_pastDelimiters (c aw : Byte) (dw : List Byte) :
    crcGen c aw dw = pastDelimiters (~~~ (dw.foldl (· ^^^ ·) (c ^^^ aw))) := by
  unfold crcGen pastDelimiters
  generalize ~~~ (dw.foldl (· ^^^ ·) (c ^^^ aw)) = k
  dsimp only
  by_cases hstart : k = 0x96#8
  · subst hstart; rfl
  by_cases hstop : k = 0xA9#8
  · subst hstop; rfl
  rw [if_neg hstart, if_neg hstop, if_neg]
  exact fun h => ((isDelim_iff k).mp h).elim hstart hstop

/-- A checksum is told apart from a delimiter (40_codec.md R107 (a)). -/
theorem crcGen_ne_delimiter (c aw : Byte) (dw : List Byte) :
    crcGen c aw dw ≠ Config.START ∧ crcGen c aw dw ≠ Config.STOP :=
  (isDelim_eq_false_iff _).mp (isDelim_crcGen c aw dw)

/-- The XOR does not see the order of the bytes (40_codec.md R106). -/
theorem crcGen_perm (c aw : Byte) {dw dw' : List Byte} (h : dw.Perm dw') : crcGen aw c dw' = crcGen c aw dw := by
  rw [crcGen_eq_pastDelimiters, crcGen_eq_pastDelimiters, BitVec.xor_comm aw c, h.foldl_eq]

/-- Settles O6. -/
theorem checksumIsComplementOfXor : Obligations.ChecksumIsComplementOfXor := by
  unfold Obligations.ChecksumIsComplementOfXor
  intro c aw d0 d1 d2
  refine ⟨crcGen_eq_pastDelimiters c aw [], crcGen_eq_pastDelimiters c aw [d0], crcGen_eq_pastDelimiters c aw [d0, d1],
    crcGen_eq_pastDelimiters c aw [d0, d1, d2], fun dw dw' => crcGen_perm c aw, ?exchange,
    fun k w w' => validateFrame_congr⟩
  case exchange =>
    have hxor : d0 ^^^ aw ^^^ c = c ^^^ aw ^^^ d0 := by ac_rfl
    rw [crcGen_eq_pastDelimiters, crcGen_eq_pastDelimiters]
    exact congrArg (fun x => pastDelimiters (~~~ x)) hxor

/-- Only a delimiter and its successor are taken to the same byte (40_codec.md R107 (b)). -/
theorem pastDelimiters_eq_iff (x y : Byte) :
    pastDelimiters x = pastDelimiters y ↔
      x = y ∨ (x = 0x96#8 ∧ y = 0x97#8) ∨ (x = 0x97#8 ∧ y = 0x96#8) ∨ (x = 0xA9#8 ∧ y = 0xAA#8) ∨
        (x = 0xAA#8 ∧ y = 0xA9#8) := by
  constructor
  case mp =>
    intro h
    unfold pastDelimiters at h
    split_ifs at h <;> simp_all
  case mpr => rintro (rfl | ⟨rfl, rfl⟩ | ⟨rfl, rfl⟩ | ⟨rfl, rfl⟩ | ⟨rfl, rfl⟩) <;> rfl

/-- The same change made to two summed bytes cancels in their XOR (40_codec.md R107 (d)). -/
theorem xor_xor_both (x y m : Byte) : (x ^^^ m) ^^^ (y ^^^ m) = x ^^^ y :=
  calc (x ^^^ m) ^^^ (y ^^^ m) = x ^^^ y ^^^ (m ^^^ m) := by ac_rfl
    _ = x ^^^ y := by rw [BitVec.xor_self, BitVec.xor_zero]

/-- Settles O7. -/
theorem checksumCollisionsAreExactlyTwo : Obligations.ChecksumCollisionsAreExactlyTwo := by
  unfold Obligations.ChecksumCollisionsAreExactlyTwo
  refine ⟨crcGen_ne_delimiter, ?pairs, ?header, ?data⟩
  case pairs =>
    intro x y
    have hcrc : ∀ x : Byte, crcGen x 0 [] = pastDelimiters (~~~ x) := by
      intro x
      exact (crcGen_eq_pastDelimiters x 0 []).trans (congrArg (fun x => pastDelimiters (~~~ x)) BitVec.xor_zero)
    have hnot : ∀ a b : Byte, ~~~ a = b ↔ a = ~~~ b := by
      intro a b
      exact ⟨fun h => by rw [← h, BitVec.not_not], fun h => by rw [h, BitVec.not_not]⟩
    rw [hcrc, hcrc, pastDelimiters_eq_iff]
    simp only [hnot, BitVec.not_not]
    rfl
  case header =>
    intro c aw m dw
    rw [crcGen_eq_pastDelimiters, crcGen_eq_pastDelimiters, xor_xor_both]
  case data =>
    intro c aw d m dw
    have hxor : c ^^^ (aw ^^^ m) ^^^ (d ^^^ m) = c ^^^ aw ^^^ d := by
      rw [← BitVec.xor_assoc c aw m, xor_xor_both]
    rw [crcGen_eq_pastDelimiters, crcGen_eq_pastDelimiters, List.foldl_cons, List.foldl_cons, hxor]

/-! ### VALIDATE (40_codec.md R110) -/

/-- The checksum is `VALIDATE`'s only test. -/
theorem validateFrame_of_crc_ne {c aw k : Byte} {dw : Bytes3} (h : crcGen c aw (dw.first (ctlCount c)) ≠ k) :
    validateFrame c aw dw k = .failed .checksum := by
  obtain ⟨hk, -⟩ | ⟨-, hv⟩ := validateFrame_cases c aw dw k
  · exact absurd hk h
  · exact hv

theorem validateFrame_of_crc_eq {c aw k : Byte} {dw : Bytes3} (h : crcGen c aw (dw.first (ctlCount c)) = k) :
    validateFrame c aw dw k =
      .frame { dir := c.getLsbD 7, addr := unescape aw (c.getLsbD 6),
               data := unescapeAll (dw.first (ctlCount c)) [c.getLsbD 2, c.getLsbD 3, c.getLsbD 4],
               ctrl := c, crc := k } := by
  obtain ⟨-, hv⟩ | ⟨hk, -⟩ := validateFrame_cases c aw dw k
  · exact hv
  · exact absurd h hk

/-- Settles O13. -/
theorem validateChecksTheChecksumOnly : Obligations.ValidateChecksTheChecksumOnly := by
  unfold Obligations.ValidateChecksTheChecksumOnly
  intro c aw k dw
  obtain ⟨hstart, hstop⟩ := crcGen_ne_delimiter c aw (dw.first (ctlCount c))
  exact ⟨validateFrame_of_crc_eq, validateFrame_of_crc_ne, validateFrame_of_crc_ne hstart,
    validateFrame_of_crc_ne hstop⟩

/-! ### A frame's bytes on the wire (30_encoding.md R70) -/

/-- A frame on the wire: address, control, data and checksum bytes between the delimiters (30_encoding.md R70). -/
def wireFrame (aw c : Byte) (dw : List Byte) (k : Byte) : List Byte := [Config.START, aw, c] ++ dw ++ [k, Config.STOP]

/-- The data bytes of a frame as they travel (40_codec.md R108). -/
def wireData (data : List Byte) : List Byte := data.map fun v => (escape v).1

@[simp] theorem wireData_length (data : List Byte) : (wireData data).length = data.length := List.length_map _

/-- The checksum byte of an encoded frame (40_codec.md R108). -/
def wireCrc (dir : Bool) (addr : Byte) (data : List Byte) : Byte :=
  crcGen (frameControl dir addr data) (escape addr).1 (wireData data)

theorem encodeFrame_eq_wireFrame (dir : Bool) (addr : Byte) (data : List Byte) :
    encodeFrame dir addr data =
      wireFrame (escape addr).1 (frameControl dir addr data) (wireData data) (wireCrc dir addr data) := rfl

@[simp] theorem wireFrame_length (aw c : Byte) (dw : List Byte) (k : Byte) :
    (wireFrame aw c dw k).length = 5 + dw.length := by
  simp [wireFrame]
  omega

theorem wireFrame_data {aw c k v : Byte} {dw : List Byte} {i : Nat} (h : dw[i]? = some v) :
    (wireFrame aw c dw k)[3 + i]? = some v := by
  obtain ⟨hi, -⟩ := List.getElem?_eq_some_iff.mp h
  rw [wireFrame, List.append_assoc, List.getElem?_append_right (by simp)]
  simp [List.getElem?_append_left hi, h]

/-- The checksum byte comes after three bytes and the data. -/
theorem beforeCrc_length (aw c : Byte) (dw : List Byte) : ([Config.START, aw, c] ++ dw).length = 3 + dw.length := by
  simp
  omega

theorem wireFrame_crc (aw c : Byte) (dw : List Byte) (k : Byte) :
    (wireFrame aw c dw k)[3 + dw.length]? = some k := by
  rw [wireFrame, ← beforeCrc_length aw c, List.getElem?_append_right le_rfl, Nat.sub_self]
  rfl

/-- Changing the checksum byte changes nothing else. -/
theorem wireFrame_set_crc (aw c : Byte) (dw : List Byte) (k k' : Byte) :
    (wireFrame aw c dw k).set (3 + dw.length) k' = wireFrame aw c dw k' := by
  rw [wireFrame, ← beforeCrc_length aw c, List.set_append_right _ _ le_rfl, Nat.sub_self]
  rfl

/-! ### DECODE (40_codec.md R111) -/

/-- The framing test: long enough, delimited, and as long as the third byte announces (40_codec.md R111). -/
structure WellShaped (s : List Byte) : Prop where
  minLength : 5 ≤ s.length
  start : byteOf s 0 = Config.START
  length : s.length = 5 + (ctlCount (byteOf s 2)).toNat
  stop : byteOf s (s.length - 1) = Config.STOP

/-- `DECODE` is the framing test, then `VALIDATE` (40_codec.md R111, 92_eei_decisions.md D18). -/
theorem decodeFrame_of_wellShaped {s : List Byte} (h : WellShaped s) :
    decodeFrame s = validateFrame (byteOf s 2) (byteOf s 1) ⟨byteOf s 3, byteOf s 4, byteOf s 5⟩
      (byteOf s (3 + (ctlCount (byteOf s 2)).toNat)) := by
  obtain ⟨hmin, hstart, hlen, hstop⟩ := h
  have hpre : ¬ (s.length < Config.MIN_FRAME ∨ byteOf s 0 ≠ Config.START) :=
    fun h => h.elim (Nat.not_lt.mpr hmin) (absurd hstart)
  have hpost : ¬ (s.length ≠ Config.MIN_FRAME + (ctlCount (byteOf s 2)).toNat ∨ byteOf s (s.length - 1) ≠ Config.STOP) :=
    fun h => h.elim (absurd hlen) (absurd hstop)
  exact (if_neg hpre).trans (if_neg hpost)

theorem decodeFrame_of_not_wellShaped {s : List Byte} (h : ¬ WellShaped s) : decodeFrame s = .failed .framing := by
  by_cases hpre : s.length < Config.MIN_FRAME ∨ byteOf s 0 ≠ Config.START
  · exact if_pos hpre
  refine (if_neg hpre).trans (if_pos (Classical.byContradiction fun hpost => h ?_))
  obtain ⟨hmin, hstart⟩ := not_or.mp hpre
  obtain ⟨hlen, hstop⟩ := not_or.mp hpost
  exact ⟨Nat.not_lt.mp hmin, not_not.mp hstart, not_not.mp hlen, not_not.mp hstop⟩

/-- `s[i]` inside the list. -/
theorem getElem?_eq_byteOf {s : List Byte} {i : Nat} (h : i < s.length) : s[i]? = some (byteOf s i) := by
  rw [byteOf, List.getD_eq_getElem?_getD, List.getElem?_eq_getElem h, Option.getD_some]

theorem byteOf_of_getElem? {s : List Byte} {i : Nat} {b : Byte} (h : s[i]? = some b) : byteOf s i = b := by
  rw [byteOf, List.getD_eq_getElem?_getD, h, Option.getD_some]

/-- Three places of a longer list, filled from a list of `n` bytes, show that list up to `n`. -/
theorem first_of_append {dw : List Byte} {n : BitVec 2} (h : dw.length = n.toNat) (l : List Byte) :
    (⟨byteOf (dw ++ l) 0, byteOf (dw ++ l) 1, byteOf (dw ++ l) 2⟩ : Bytes3).first n = dw := by
  have hn : n.toNat < 4 := n.isLt
  unfold Bytes3.first
  rw [← h]
  match dw with
  | [] | [_] | [_, _] | [_, _, _] => rfl
  | _ :: _ :: _ :: _ :: _ => simp at h; omega

theorem wellShaped_wireFrame {c : Byte} {dw : List Byte} (h : dw.length = (ctlCount c).toNat) (aw k : Byte) :
    WellShaped (wireFrame aw c dw k) where
  minLength := by rw [wireFrame_length]; omega
  start := rfl
  length := by rw [wireFrame_length, h]; rfl
  stop := by
    refine byteOf_of_getElem? ?_
    rw [← List.getLast?_eq_getElem?, wireFrame, List.getLast?_append]
    rfl

/-- A list of the right shape is validated field by field; `w` is any three bytes that begin with the data
(40_codec.md R111). -/
theorem decodeFrame_wireFrame {c : Byte} {dw : List Byte} {w : Bytes3} (hw : w.first (ctlCount c) = dw) (aw k : Byte) :
    decodeFrame (wireFrame aw c dw k) = validateFrame c aw w k := by
  have hlen : dw.length = (ctlCount c).toNat := hw ▸ first_length w (ctlCount c)
  rw [decodeFrame_of_wellShaped (wellShaped_wireFrame hlen aw k)]
  have hcrc : byteOf (wireFrame aw c dw k) (3 + (ctlCount c).toNat) = k :=
    hlen ▸ byteOf_of_getElem? (wireFrame_crc aw c dw k)
  refine Eq.trans (congrArg (validateFrame c aw _) hcrc) (validateFrame_congr ?_)
  exact (first_of_append hlen [k, Config.STOP]).trans hw.symm

/-- Settles O14. -/
theorem decodeTestsTheShapeFirst : Obligations.DecodeTestsTheShapeFirst := by
  unfold Obligations.DecodeTestsTheShapeFirst
  intro s
  refine ⟨fun h => ?short, fun h => ?start, fun h => ?stop, fun c hc h => ?length, fun aw c k dw hlen hs => ?shaped⟩
  case shaped =>
    have hw := first_of_append hlen []
    rw [List.append_nil] at hw
    rw [hs]
    exact decodeFrame_wireFrame hw aw k
  all_goals refine decodeFrame_of_not_wellShaped fun hshape => ?_
  all_goals obtain ⟨hmin, hstart, hlength, hstop⟩ := hshape
  case short => exact absurd hmin (Nat.not_le.mpr h)
  case start => exact h (by rw [List.head?_eq_getElem?, getElem?_eq_byteOf (by omega), hstart]; rfl)
  case stop => exact h (by rw [List.getLast?_eq_getElem?, getElem?_eq_byteOf (by omega), hstop]; rfl)
  case length => exact h (byteOf_of_getElem? hc ▸ hlength)

/-! ### ENCODE (40_codec.md R108, R109, R112, R113) -/

/-- The control byte of an encoded frame has all its fields, no flag being that of an absent byte (40_codec.md R108). -/
theorem ctlUnpack_frameControl (dir : Bool) (addr : Byte) {data : List Byte} (h : data.length ≤ 3) :
    ctlUnpack (frameControl dir addr data) =
      { dir := dir, fa := (escape addr).2, f0 := (data.map fun v => (escape v).2).getD 0 false,
        f1 := (data.map fun v => (escape v).2).getD 1 false, f2 := (data.map fun v => (escape v).2).getD 2 false,
        n := BitVec.ofNat 2 data.length } := by
  rw [frameControl, ctlUnpack_ctlPack]
  match data with
  | [] | [_] | [_, _] | [_, _, _] => simp [maskFlags]
  | _ :: _ :: _ :: _ :: _ => simp at h; omega

/-- The control byte of an encoded frame announces the data bytes that follow it (40_codec.md R108). -/
theorem wireData_length_eq_count (dir : Bool) (addr : Byte) {data : List Byte} (h : data.length ≤ 3) :
    (wireData data).length = (ctlCount (frameControl dir addr data)).toNat := by
  obtain ⟨-, hcount⟩ := frameControl_fields dir addr data
  rw [hcount, wireData_length, BitVec.toNat_ofNat, Nat.mod_eq_of_lt (by omega)]

/-- The flag of each data byte (40_codec.md R113). -/
theorem frameControl_dataFlag (dir : Bool) (addr : Byte) {data : List Byte} {i : Nat} {v : Byte} (h : data.length ≤ 3)
    (hv : data[i]? = some v) : (frameControl dir addr data).getLsbD (2 + i) = (escape v).2 := by
  have hu := ctlUnpack_frameControl dir addr h
  have hflag : (data.map fun v => (escape v).2).getD i false = (escape v).2 := by
    simp [List.getD_eq_getElem?_getD, hv]
  obtain ⟨hi, -⟩ := List.getElem?_eq_some_iff.mp hv
  match i with
  | 0 => exact (congrArg CtlFields.f0 hu).trans hflag
  | 1 => exact (congrArg CtlFields.f1 hu).trans hflag
  | 2 => exact (congrArg CtlFields.f2 hu).trans hflag
  | n + 3 => omega

/-- Each data byte is unescaped by its own flag (40_codec.md R112). -/
theorem unescapeAll_wireData (dir : Bool) (addr : Byte) {data : List Byte} (h : data.length ≤ 3) :
    unescapeAll (wireData data) (dataFlags (ctlUnpack (frameControl dir addr data))) = data := by
  rw [ctlUnpack_frameControl dir addr h]
  match data with
  | [] | [_] | [_, _] | [_, _, _] => simp [unescapeAll, wireData, dataFlags, unescape_escape]
  | _ :: _ :: _ :: _ :: _ => simp at h; omega

/-- A list of at most three bytes, as registers that hold it. -/
theorem exists_first_eq {dw : List Byte} {n : BitVec 2} (h : dw.length = n.toNat) : ∃ w : Bytes3, w.first n = dw :=
  ⟨_, first_of_append h []⟩

/-- `DECODE` of `ENCODE` is the frame, with the control and checksum bytes it was sent with (40_codec.md R112). -/
theorem decodeFrame_encodeFrame (dir : Bool) (addr : Byte) {data : List Byte} (h : data.length ≤ 3) :
    decodeFrame (encodeFrame dir addr data) =
      .frame { dir := dir, addr := addr, data := data, ctrl := frameControl dir addr data,
               crc := wireCrc dir addr data } := by
  have hlen := wireData_length_eq_count dir addr h
  obtain ⟨w, hw⟩ := exists_first_eq hlen
  have hu := ctlUnpack_frameControl dir addr h
  have hdir : (frameControl dir addr data).getLsbD 7 = dir := congrArg CtlFields.dir hu
  have hfa : (frameControl dir addr data).getLsbD 6 = (escape addr).2 := congrArg CtlFields.fa hu
  have hdata : unescapeAll (w.first (ctlCount (frameControl dir addr data)))
      (dataFlags (ctlUnpack (frameControl dir addr data))) = data := by rw [hw, unescapeAll_wireData dir addr h]
  have hcrc : crcGen (frameControl dir addr data) (escape addr).1 (w.first (ctlCount (frameControl dir addr data))) =
      wireCrc dir addr data := by rw [hw]; rfl
  rw [encodeFrame_eq_wireFrame, decodeFrame_wireFrame hw, validateFrame_of_crc_eq hcrc, hdir, hfa, unescape_escape]
  exact congrArg (fun l => Verdict.frame ⟨dir, addr, l, frameControl dir addr data, wireCrc dir addr data⟩) hdata

theorem encodeFrame_crc (dir : Bool) (addr : Byte) (data : List Byte) :
    (encodeFrame dir addr data)[3 + data.length]? = some (wireCrc dir addr data) := by
  rw [encodeFrame_eq_wireFrame, ← wireData_length data, wireFrame_crc]

/-- Settles O11. -/
theorem decodeUndoesEncode : Obligations.DecodeUndoesEncode := by
  unfold Obligations.DecodeUndoesEncode
  intro dir addr data h
  exact ⟨_, _, decodeFrame_encodeFrame dir addr h, rfl, encodeFrame_crc dir addr data⟩

/-- Settles O12: equal bytes decode to equal frames. -/
theorem encodeIsInjective : Obligations.EncodeIsInjective := by
  unfold Obligations.EncodeIsInjective
  intro dir dir' addr addr' data data' h h' heq
  have hframe := (decodeFrame_encodeFrame dir addr h).symm.trans
    ((congrArg decodeFrame heq).trans (decodeFrame_encodeFrame dir' addr' h'))
  cases hframe
  exact ⟨rfl, rfl, rfl⟩

/-- A byte that travels escaped, with its flag, is changed and flagged exactly when it is a delimiter. -/
theorem escaped_and_flagged {v : Byte} {w : Option Byte} {f : Bool} (hw : w = some (escape v).1)
    (hf : f = (escape v).2) :
    (isDelim v = true → w = some (v ^^^ 1#8) ∧ f = true) ∧ (isDelim v = false → w = some v ∧ f = false) := by
  refine ⟨fun hd => ?_, fun hd => ?_⟩
  · rw [hw, hf, escape_of_isDelim hd]
    exact ⟨rfl, rfl⟩
  · rw [hw, hf, escape_of_not_isDelim hd]
    exact ⟨rfl, rfl⟩

/-- Settles O10. -/
theorem encodedFieldsAreEscapedAndFlagged : Obligations.EncodedFieldsAreEscapedAndFlagged := by
  unfold Obligations.EncodedFieldsAreEscapedAndFlagged
  intro dir addr data h
  have hfa : (frameControl dir addr data).getLsbD 6 = (escape addr).2 :=
    congrArg CtlFields.fa (ctlUnpack_frameControl dir addr h)
  obtain ⟨hdelim, hplain⟩ := escaped_and_flagged (w := (encodeFrame dir addr data)[1]?) rfl hfa
  refine ⟨frameControl dir addr data, rfl, hdelim, hplain, fun i v hv => ?data⟩
  case data =>
    have hwire : (wireData data)[i]? = some (escape v).1 := by rw [wireData, List.getElem?_map, hv]; rfl
    exact escaped_and_flagged (wireFrame_data hwire) (frameControl_dataFlag dir addr h hv)

/-! ### The function rows (40_codec.md R100) -/

/-- Settles O15: each row only answers, with the value of its function; a control byte's fields are those given. -/
theorem functionRowsComputeTheirValue : Obligations.FunctionRowsComputeTheirValue := by
  unfold Obligations.FunctionRowsComputeTheirValue
  intro s
  exact ⟨rfl, rfl, fun rsv f => ⟨ctlLayout rsv f, rfl, ctlLayout_bits rsv f⟩, fun _ => rfl, fun _ => rfl,
    fun _ _ => rfl, fun _ => rfl, fun _ => rfl, fun _ _ _ => rfl, fun _ _ _ => rfl, fun _ _ _ _ _ _ => rfl,
    fun _ => rfl⟩

/-! ### A candidate frame at the receiver (41_receiver.md R131 to R138) -/

theorem deliver_start {s : State} (h : s.rxState = .waitStart) :
    deliver (rxByteInput Config.START) s = .next (s.goTo .readAddress) := by
  rw [deliver_rxByte, h]
  rfl

theorem deliver_address {s : State} (h : s.rxState = .readAddress) (b : Byte) :
    deliver (rxByteInput b) s = .next (s.captureAddress .addrFirst b) := by
  rw [deliver_rxByte, h]
  rfl

theorem deliver_control {s : State} (h : s.rxState = .readControl) (b : Byte) :
    deliver (rxByteInput b) s = .next (s.captureControl .addrFirst b) := by
  rw [deliver_rxByte, h]
  rfl

theorem deliver_data {s t : State} {b : Byte} (h : s.rxState = .readData) (ht : s.captureData b = some t) :
    deliver (rxByteInput b) s = .next t := by
  rw [deliver_rxByte, h]
  change execRxData b s = .next t
  rw [execRxData, ht]

theorem deliver_checksum {s : State} (h : s.rxState = .readCrc) (b : Byte) :
    deliver (rxByteInput b) s = .next (s.captureChecksum b) := by
  rw [deliver_rxByte, h]
  rfl

theorem deliver_stop {s : State} (h : s.rxState = .expectStop) :
    deliver (rxByteInput Config.STOP) s = .next s.closeFrame := by
  rw [deliver_rxByte, h]
  rfl

theorem feed_cons {b : Byte} {s t : State} (h : deliver (rxByteInput b) s = .next t) (bs : List Byte) :
    feed (b :: bs) s = feed bs t ∧ feedAnswers (b :: bs) s = t.answer :: feedAnswers bs t := by
  simp only [feed, feedAnswers, h, and_self]

/-- The bytes lead from `s` to `t`, each without an output. What follows them is fed to `t`. -/
def TakenSilently (bs : List Byte) (s t : State) : Prop :=
  ∀ cs : List Byte, feed (bs ++ cs) s = feed cs t ∧
    feedAnswers (bs ++ cs) s = List.replicate bs.length .silent ++ feedAnswers cs t

theorem TakenSilently.nil (s : State) : TakenSilently [] s s := fun _ => ⟨rfl, rfl⟩

theorem TakenSilently.cons {b : Byte} {bs : List Byte} {s t u : State} (h : deliver (rxByteInput b) s = .next t)
    (ha : t.answer = .silent) (hbs : TakenSilently bs t u) : TakenSilently (b :: bs) s u := by
  intro cs
  obtain ⟨hfeed, hanswers⟩ := hbs cs
  obtain ⟨hf, has⟩ := feed_cons h (bs ++ cs)
  exact ⟨hf.trans hfeed, by rw [List.cons_append, has, ha, hanswers]; rfl⟩

theorem TakenSilently.append {bs cs : List Byte} {s t u : State} (h : TakenSilently bs s t)
    (hcs : TakenSilently cs t u) : TakenSilently (bs ++ cs) s u := by
  intro ds
  obtain ⟨hf, ha⟩ := h (cs ++ ds)
  obtain ⟨hfeed, hanswers⟩ := hcs ds
  rw [List.append_assoc, hf, ha, hanswers, List.length_append, List.replicate_add, List.append_assoc]
  exact ⟨hfeed, rfl⟩

/-- The header's bytes: address and control byte are stored as received (41_receiver.md R133 to R135). -/
theorem takenSilently_header {s : State} (h : s.rxState = .waitStart) (aw c : Byte) :
    TakenSilently [Config.START, aw, c] s
      { s with rxState := afterHeader c, rxIdx := 0, rxAddr := aw, rxCtrl := c, answer := .silent } :=
  .cons (deliver_start h) rfl (.cons (deliver_address rfl aw) rfl (.cons (deliver_control rfl c) rfl (.nil _)))

/-- The data bytes still announced are stored one after another behind those already there (41_receiver.md R136). -/
theorem takenSilently_data {dw : List Byte} (hdw : dw ≠ []) {s : State} (h : s.rxState = .readData)
    (hlen : s.rxIdx.toNat + dw.length = (ctlCount s.rxCtrl).toNat) :
    ∃ d i, d.first (ctlCount s.rxCtrl) = s.rxData.first s.rxIdx ++ dw ∧
      TakenSilently dw s { s with rxState := .readCrc, rxIdx := i, rxData := d, answer := .silent } := by
  induction dw generalizing s with
  | nil => exact absurd rfl hdw
  | cons b bs ih =>
    have hn : (ctlCount s.rxCtrl).toNat < 4 := (ctlCount s.rxCtrl).isLt
    rw [List.length_cons] at hlen
    obtain ⟨t, ht⟩ := captureData_exists b (s := s) (by omega)
    have hdel : deliver (rxByteInput b) s = .next t := deliver_data h ht
    have hidx : (s.rxIdx + 1).toNat = s.rxIdx.toNat + 1 :=
      toNat_succ_of_lt (n := ctlCount s.rxCtrl) (by omega)
    obtain ⟨d, hd, ⟨hm, rfl⟩ | ⟨hm, rfl⟩⟩ := captureData_cases ht
    · have hbs : bs ≠ [] := by
        rintro rfl
        rw [List.length_nil] at hlen
        omega
      obtain ⟨d', i, hfirst, hbs⟩ := ih hbs (s := { s with rxData := d, rxIdx := s.rxIdx + 1, answer := .silent }) h
        (by change (s.rxIdx + 1).toNat + bs.length = (ctlCount s.rxCtrl).toNat; omega)
      refine ⟨d', i, hfirst.trans ?_, .cons hdel rfl hbs⟩
      rw [first_set_succ hd, List.append_assoc]
      rfl
    · obtain rfl : bs = [] := List.eq_nil_of_length_eq_zero (by omega)
      have hlast : ctlCount s.rxCtrl = s.rxIdx + 1 := BitVec.eq_of_toNat_eq (by rw [hidx, ← hlen]; rfl)
      exact ⟨d, s.rxIdx, by rw [hlast, first_set_succ hd], .cons hdel rfl (.nil _)⟩

/-- A state whose candidate frame lacks its last byte only. -/
def State.candidate (aw c : Byte) (d : Bytes3) (i : BitVec 2) (k : Byte) (s : State) : State :=
  { s with rxState := .expectStop, rxIdx := i, rxAddr := aw, rxCtrl := c, rxData := d, rxCrc := k, answer := .silent }

theorem candidate_validated (aw c : Byte) (d : Bytes3) (i : BitVec 2) (k : Byte) (s : State) :
    (s.candidate aw c d i k).validated = validateFrame c aw d k := rfl

/-- A frame's bytes up to the checksum are taken silently and stored as received (41_receiver.md R133 to R137). -/
theorem takenSilently_candidate {s : State} (h : s.rxState = .waitStart) (aw : Byte) {c : Byte} {dw : List Byte}
    (hlen : dw.length = (ctlCount c).toNat) (k : Byte) :
    ∃ d i, d.first (ctlCount c) = dw ∧
      TakenSilently ([Config.START, aw, c] ++ dw ++ [k]) s (s.candidate aw c d i k) := by
  have hheader := takenSilently_header h aw c
  obtain ⟨hst, hn⟩ | ⟨hst, hn⟩ := afterHeader_cases c <;> rw [hst] at hheader
  · have hdw : dw ≠ [] := by
      rintro rfl
      rw [← hlen] at hn
      exact Nat.lt_irrefl 0 hn
    obtain ⟨d, i, hfirst, hdata⟩ := takenSilently_data hdw
      (s := { s with rxState := .readData, rxIdx := 0, rxAddr := aw, rxCtrl := c, answer := .silent }) rfl
      ((Nat.zero_add _).trans hlen)
    exact ⟨d, i, hfirst, (hheader.append hdata).append (.cons (deliver_checksum rfl k) rfl (.nil _))⟩
  · obtain rfl : dw = [] := List.eq_nil_of_length_eq_zero (by rw [hlen, hn]; rfl)
    exact ⟨s.rxData, 0, by rw [hn]; rfl, hheader.append (.cons (deliver_checksum rfl k) rfl (.nil _))⟩

/-- A list of the right shape fed to a receiver in `WAIT_START` is answered by its last byte alone, which closes the
candidate frame (41_receiver.md R138). -/
theorem feed_wireFrame {s : State} (h : s.rxState = .waitStart) (aw : Byte) {c : Byte} {dw : List Byte}
    (hlen : dw.length = (ctlCount c).toNat) (k : Byte) :
    ∃ d i, d.first (ctlCount c) = dw ∧ feed (wireFrame aw c dw k) s = .next (s.candidate aw c d i k).closeFrame ∧
      feedAnswers (wireFrame aw c dw k) s =
        List.replicate (4 + dw.length) .silent ++ [(s.candidate aw c d i k).closeFrame.answer] := by
  obtain ⟨d, i, hd, hsilent⟩ := takenSilently_candidate h aw hlen k
  obtain ⟨hfeed, hanswers⟩ := hsilent [Config.STOP]
  obtain ⟨hlast, hanswer⟩ := feed_cons (deliver_stop (s := s.candidate aw c d i k) rfl) []
  have hsplit : wireFrame aw c dw k = [Config.START, aw, c] ++ dw ++ [k] ++ [Config.STOP] := by simp [wireFrame]
  have hcount : ([Config.START, aw, c] ++ dw ++ [k]).length = 4 + dw.length := by
    rw [List.length_append, beforeCrc_length, List.length_singleton]
    omega
  refine ⟨d, i, hd, ?_, ?_⟩
  · rw [hsplit, hfeed, hlast]
    rfl
  · rw [hsplit, hanswers, hanswer, hcount]
    rfl

/-- Settles O33: the shape is as before, so the changed checksum is what `VALIDATE` sees. -/
theorem corruptedChecksumIsDiscarded : Obligations.CorruptedChecksumIsDiscarded := by
  unfold Obligations.CorruptedChecksumIsDiscarded
  intro dir addr data k s hdata hst hk
  have hlen := wireData_length_eq_count dir addr hdata
  have hbytes : (encodeFrame dir addr data).set (3 + data.length) k =
      wireFrame (escape addr).1 (frameControl dir addr data) (wireData data) k := by
    rw [encodeFrame_eq_wireFrame, ← wireData_length data, wireFrame_set_crc]
  have hne : wireCrc dir addr data ≠ k := fun he => hk (he ▸ encodeFrame_crc dir addr data)
  obtain ⟨d, i, hd, hfeed, hanswers⟩ := feed_wireFrame hst (escape addr).1 hlen k
  have hfail : validateFrame (frameControl dir addr data) (escape addr).1 d k = .failed .checksum :=
    validateFrame_of_crc_ne (hd ▸ hne)
  have hclose : (s.candidate (escape addr).1 (frameControl dir addr data) d i k).closeFrame =
      (s.candidate (escape addr).1 (frameControl dir addr data) d i k).raise .checksum := by
    rw [State.closeFrame, candidate_validated, hfail]
  rw [hclose] at hfeed hanswers
  rw [hbytes]
  refine ⟨(decodeFrame_wireFrame hd _ k).trans hfail, _, hfeed, rfl, fun a ha => ?answers⟩
  case answers =>
    rw [hanswers, List.mem_append, List.mem_singleton] at ha
    obtain ha | rfl := ha
    · rw [List.eq_of_mem_replicate ha]
      rfl
    · rfl

end Sys2Proof.Machine
end

section
/-! PROOFS. 41_receiver.md: what each received byte and a line error do (O16 to O25), the transition table (O28), the
independence of `frame_ready` (O29), the return to `WAIT_START` (O34), noise outside a frame (O17), and what is published
(O30 to O32). -/

namespace Sys2Proof.Machine

/-! ### The receiver's operations (41_receiver.md R132 to R141) -/

/-- Settles O16. -/
theorem rxSkipWritesNothing : Obligations.RxSkipWritesNothing :=
  ⟨fun _ _ => rfl, fun b h => (decode_rxByte _ b).trans (congrArg _ (decodeRxByte_waitStart_of_ne h))⟩

/-- Settles O18. -/
theorem rxStartOpensACandidate : Obligations.RxStartOpensACandidate :=
  ⟨fun _ => rfl, decode_rxByte _ _, decode_rxByte _ _⟩

/-- Settles O19. -/
theorem rxAddrStoresTheByteAsReceived : Obligations.RxAddrStoresTheByteAsReceived :=
  fun b _ => ⟨rfl, decode_rxByte _ b⟩

/-- Settles O20. -/
theorem rxCtrlStoresTheByteAndLearnsTheLength : Obligations.RxCtrlStoresTheByteAndLearnsTheLength :=
  ⟨fun b _ => ⟨rfl, decode_rxByte _ b⟩, by decide, by decide⟩

/-- Where `rx_data` has the element, RX.DATA stores the byte there and stays while another one is announced
(41_receiver.md R136). -/
theorem exec_rxData_of_set {b : Byte} {s : State} {d : Bytes3} (h : s.rxData.set s.rxIdx.toNat b = some d) :
    exec (.rxData b) s = .next
      (if s.rxIdx.toNat + 1 < (ctlCount s.rxCtrl).toNat then
        { s with rxData := d, rxIdx := s.rxIdx + 1, answer := .silent }
      else { s with rxData := d, rxState := .readCrc, answer := .silent }) := by
  have hcapture : s.captureData b = some { s with rxData := d }.advanceData := by rw [State.captureData, h]
  change execRxData b s = _
  rw [execRxData, hcapture]
  simp only [State.advanceData, State.moreData, State.goTo, decide_eq_true_eq]

/-- Where `rx_data` has no such element, RX.DATA stops. -/
theorem exec_rxData_of_no_element {b : Byte} {s : State} (h : s.rxData.set s.rxIdx.toNat b = none) :
    exec (.rxData b) s = .fault .rxDataIndex := by
  have hcapture : s.captureData b = none := by rw [State.captureData, h]
  change execRxData b s = _
  rw [execRxData, hcapture]

/-- Settles O21. -/
theorem rxDataStoresTheByteAtTheIndex : Obligations.RxDataStoresTheByteAtTheIndex := by
  unfold Obligations.RxDataStoresTheByteAtTheIndex
  intro b s after
  exact ⟨fun h => exec_rxData_of_set (by rw [h]; rfl), fun h => exec_rxData_of_set (by rw [h]; rfl),
    fun h => exec_rxData_of_set (by rw [h]; rfl), decode_rxByte _ b⟩

/-- No checksum is a delimiter, so a delimiter in its place never validates (40_codec.md R110). -/
theorem validateFrame_of_isDelim {b : Byte} (h : isDelim b = true) (c aw : Byte) (dw : Bytes3) :
    validateFrame c aw dw b = .failed .checksum :=
  validateFrame_of_crc_ne fun hcrc => by
    have hno := isDelim_crcGen c aw (dw.first (ctlCount c))
    rw [hcrc, h] at hno
    cases hno

/-- Settles O22. -/
theorem rxCrcStoresTheByte : Obligations.RxCrcStoresTheByte :=
  fun b _ => ⟨rfl, decode_rxByte _ b, fun h => validateFrame_of_isDelim ((isDelim_iff b).mpr h)⟩

/-- Settles O24. -/
theorem rxBadstopDiscards : Obligations.RxBadstopDiscards := by
  unfold Obligations.RxBadstopDiscards
  have hselect : ∀ b : Byte, b ≠ 0xA9#8 → decode .expectStop (rxByteInput b) = .ok (.rxBadstop b) := fun b h =>
    (decode_rxByte _ b).trans (congrArg _ (decodeRxByte_expectStop_of_ne h))
  exact ⟨fun _ _ => rfl, hselect, hselect 0x96#8 (by decide), rfl⟩

/-- Settles O25. -/
theorem rxLineErrDiscardsInAnyState : Obligations.RxLineErrDiscardsInAnyState := by
  unfold Obligations.RxLineErrDiscardsInAnyState
  refine ⟨fun _ => rfl, fun st b t => ?select, rfl⟩
  case select => rw [decode, decodeEvent, evKind_append]; rfl

/-! ### RX.STOP (41_receiver.md R138) -/

/-- A candidate that validates is published. -/
theorem closeFrame_of_frame {s : State} {f : Frame} (h : s.validated = .frame f) : s.closeFrame = s.publish f := by
  rw [State.closeFrame, h]

/-- A candidate that fails is discarded. -/
theorem closeFrame_of_failed {s : State} {e : CodecError} (h : s.validated = .failed e) :
    s.closeFrame = s.raise .checksum := by
  rw [State.closeFrame, h]

/-- Settles O23: the step closes the candidate frame, and the checksum decides which way. -/
theorem rxStopPublishesOrDiscards : Obligations.RxStopPublishesOrDiscards := by
  unfold Obligations.RxStopPublishesOrDiscards
  refine ⟨decode_rxByte _ _, fun s => ⟨fun hcrc => ?published, fun hcrc => ?discarded⟩⟩
  case published =>
    have hv : s.validated = .frame _ := validateFrame_of_crc_eq hcrc
    obtain ⟨-, -, hlen⟩ := validateFrame_frame hv
    exact ⟨_, congrArg Host.Outcome.next (closeFrame_of_frame hv), rfl, ofList_first _ _ _ hlen⟩
  case discarded =>
    have hv : s.validated = .failed .checksum := validateFrame_of_crc_ne hcrc
    exact congrArg Host.Outcome.next (closeFrame_of_failed hv)

/-- Settles O30: only RX.STOP answers a publication, and only of the frame that `VALIDATE` gave. -/
theorem everyPublishedFrameIsValidated : Obligations.EveryPublishedFrameIsValidated := by
  unfold Obligations.EveryPublishedFrameIsValidated
  intro i s t f h ha
  by_cases hi : contextOf i = .outside
  · obtain ⟨a, hexec, hno⟩ := exec_of_outside hi
    cases (hexec s).symm.trans h
    exact absurd ha (hno _)
  cases i with
  | rxStop =>
    cases h
    obtain ⟨g, hv, hc⟩ | ⟨-, hc⟩ := closeFrame_cases s
    · rw [hc] at ha
      cases ha
      rw [hc]
      exact ⟨rfl, hv, publish_publishedFrame hv, rfl⟩
    · rw [hc] at ha
      cases ha
  | rxData b => obtain ⟨d, -, ⟨-, rfl⟩ | ⟨-, rfl⟩⟩ := captureData_cases (execRxData_cases h) <;> cases ha
  | hostRead => obtain ⟨-, rfl⟩ | ⟨-, rfl⟩ := execHostRead_cases h <;> cases ha
  | txLoad dir addr p => obtain ⟨-, rfl⟩ | ⟨-, rfl⟩ := execTxLoad_cases h <;> cases ha
  | txNext => obtain ⟨-, rfl⟩ | ⟨b, -, -, rfl⟩ := execTxNext_cases h <;> cases ha
  | rxStart | rxSkip | rxAddr | rxCtrl | rxCrc | rxBadstop | rxLineErr | hostAck | hostClrerr | reset =>
    cases h
    cases ha
  | _ => exact absurd rfl hi

/-! ### The transition table (41_receiver.md R131) -/

theorem deliver_skip {s : State} {b : Byte} (h : s.rxState = .waitStart) (hb : b ≠ Config.START) :
    deliver (rxByteInput b) s = .next (s.answering .silent) := by
  rw [deliver_rxByte, h, decodeRxByte_waitStart_of_ne hb]
  rfl

/-- In `EXPECT_STOP` every byte ends the candidate frame, one way or the other. -/
theorem deliver_expectStop {s : State} (h : s.rxState = .expectStop) (b : Byte) :
    ∃ t, deliver (rxByteInput b) s = .next t ∧ t.rxState = .waitStart := by
  by_cases hb : b = Config.STOP
  · subst hb
    refine ⟨_, deliver_stop h, ?_⟩
    obtain ⟨f, -, hc⟩ | ⟨-, hc⟩ := closeFrame_cases s <;> rw [hc] <;> rfl
  · rw [deliver_rxByte, h, decodeRxByte_expectStop_of_ne hb]
    exact ⟨_, rfl, rfl⟩

/-- A host, transmitter or outside operation leaves the receiver where it is. -/
theorem exec_rxState_of_not_receive {i : Instr} {s t : State}
    (hi : contextOf i = .host ∨ contextOf i = .transmit ∨ contextOf i = .outside) (h : exec i s = .next t) :
    t.rxState = s.rxState := by
  obtain hi | hi | hi := hi
  · cases i with
    | hostAck | hostClrerr => cases h; rfl
    | hostRead => obtain ⟨-, rfl⟩ | ⟨-, rfl⟩ := execHostRead_cases h <;> rfl
    | txLoad dir addr p => obtain ⟨-, rfl⟩ | ⟨-, rfl⟩ := execTxLoad_cases h <;> rfl
    | _ => cases hi
  · cases i with
    | txNext => obtain ⟨-, rfl⟩ | ⟨b, -, -, rfl⟩ := execTxNext_cases h <;> rfl
    | _ => cases hi
  · obtain ⟨a, hexec, -⟩ := exec_of_outside hi
    cases (hexec s).symm.trans h
    rfl

/-- Settles O28: one case for each state that a byte can find. -/
theorem rxStateFollowsTheTransitionTable : Obligations.RxStateFollowsTheTransitionTable := by
  unfold Obligations.RxStateFollowsTheTransitionTable
  refine ⟨?byte, ?away, fun i s t => exec_rxState_of_not_receive⟩
  case away => rintro s t (h | h) <;> cases h <;> rfl
  case byte =>
    intro s b hidx n
    cases hst : s.rxState with
    | waitStart =>
      by_cases hb : b = Config.START
      · subst hb
        exact ⟨_, deliver_start hst, rfl, nofun, nofun⟩
      · exact ⟨_, deliver_skip hst hb, hst.trans (if_neg hb).symm, nofun, nofun⟩
    | readAddress => exact ⟨_, deliver_address hst b, rfl, nofun, nofun⟩
    | readControl =>
      have hn : n = (ctlCount b).toNat := by simp only [n, if_pos hst]; rfl
      exact ⟨_, deliver_control hst b, by rw [hn]; rfl, fun _ => rfl, nofun⟩
    | readData =>
      have hn : n = (ctlCount s.rxCtrl).toNat := by simp only [n, hst]; rfl
      rw [hn]
      obtain ⟨t, ht⟩ := captureData_exists b hidx
      refine ⟨t, deliver_data hst ht, ?_⟩
      obtain ⟨d, -, ⟨hm, rfl⟩ | ⟨hm, rfl⟩⟩ := captureData_cases ht
      · exact ⟨hst.trans (if_pos hm).symm, nofun, fun _ _ => toNat_succ_of_lt (Nat.lt_of_succ_lt hm)⟩
      · exact ⟨(if_neg hm).symm, nofun, fun _ hm' => absurd hm' hm⟩
    | readCrc => exact ⟨_, deliver_checksum hst b, rfl, nofun, nofun⟩
    | expectStop =>
      obtain ⟨t, ht, hnext⟩ := deliver_expectStop hst b
      exact ⟨t, ht, hnext, nofun, nofun⟩

/-! ### `frame_ready` (41_receiver.md R140) -/

/-- The state with any value in `frame_ready`. -/
def State.withReady (v : Bool) (s : State) : State := { s with frameReady := v }

section Ready
variable {i : Instr} {s t : State}

/-- Where nothing is published the flag is as it was. -/
theorem withReady_of_not_publishes (ha : t.answer.publishes = false) (v : Bool) :
    t.withReady (v || t.answer.publishes) = t.withReady v := by
  rw [ha, Bool.or_false]

/-- RX.DATA does not see the flag, whether `rx_data` has the element or not. -/
theorem exec_rxData_withReady (b : Byte) (s : State) (v : Bool) :
    (∃ t, exec (.rxData b) s = .next t ∧ exec (.rxData b) (s.withReady v) = .next (t.withReady v) ∧
      t.answer.publishes = false) ∨
    ∃ r, exec (.rxData b) s = .fault r ∧ exec (.rxData b) (s.withReady v) = .fault r := by
  cases hd : s.rxData.set s.rxIdx.toNat b with
  | some d =>
    refine .inl ⟨_, exec_rxData_of_set hd, ?_, by split <;> rfl⟩
    rw [apply_ite (State.withReady v)]
    exact exec_rxData_of_set (s := s.withReady v) hd
  | none => exact .inr ⟨.rxDataIndex, exec_rxData_of_no_element hd, exec_rxData_of_no_element hd⟩

/-- The verdict on the candidate frame does not depend on the flag, which a publication sets. -/
theorem closeFrame_withReady (s : State) (v : Bool) :
    (s.withReady v).closeFrame = s.closeFrame.withReady (v || s.closeFrame.answer.publishes) := by
  obtain ⟨f, hv, hc⟩ | ⟨hv, hc⟩ := closeFrame_cases s <;> rw [hc]
  · rw [closeFrame_of_frame (s := s.withReady v) hv, publish_answer, Answer.publishes, Bool.or_true]
    rfl
  · rw [closeFrame_of_failed (s := s.withReady v) hv, withReady_of_not_publishes rfl]
    rfl

/-- A receiver operation steps alike, or stops alike, with any value in the flag. -/
theorem exec_withReady_of_receive (hi : contextOf i = .receive) (s : State) (v : Bool) :
    (∃ t, exec i s = .next t ∧ exec i (s.withReady v) = .next (t.withReady (v || t.answer.publishes))) ∨
    ∃ r, exec i s = .fault r ∧ exec i (s.withReady v) = .fault r := by
  cases i with
  | rxStop => exact .inl ⟨_, rfl, congrArg Host.Outcome.next (closeFrame_withReady s v)⟩
  | rxData b =>
    refine (exec_rxData_withReady b s v).imp_left fun ⟨t, hs, hv, ha⟩ => ⟨t, hs, ?_⟩
    rw [withReady_of_not_publishes ha, hv]
  | rxStart | rxSkip | rxAddr | rxCtrl | rxCrc | rxBadstop | rxLineErr =>
    refine .inl ⟨_, rfl, ?_⟩
    rw [withReady_of_not_publishes rfl]
    rfl
  | _ => cases hi

end Ready

/-- Settles O29. -/
theorem receiverIgnoresFrameReady : Obligations.ReceiverIgnoresFrameReady := by
  unfold Obligations.ReceiverIgnoresFrameReady
  intro i s v hi
  obtain ⟨t, hs, hv⟩ | ⟨r, hs, hv⟩ := exec_withReady_of_receive hi s v <;> rw [hs] <;> exact hv

/-! ### The return to `WAIT_START` (41_receiver.md R145) -/

/-- How many more bytes the receiver takes at most until it is in `WAIT_START`: the longest frame without its `START`
has 7 bytes (30_encoding.md R70). -/
def State.bytesToGo (s : State) : Nat :=
  match s.rxState with
  | .waitStart => 0
  | .readAddress => 7
  | .readControl => 6
  | .readData => 2 + ((ctlCount s.rxCtrl).toNat - s.rxIdx.toNat)
  | .readCrc => 2
  | .expectStop => 1

section BytesToGo
variable {s : State}

theorem bytesToGo_waitStart (h : s.rxState = .waitStart) : s.bytesToGo = 0 := by rw [State.bytesToGo, h]

theorem bytesToGo_readAddress (h : s.rxState = .readAddress) : s.bytesToGo = 7 := by rw [State.bytesToGo, h]

theorem bytesToGo_readControl (h : s.rxState = .readControl) : s.bytesToGo = 6 := by rw [State.bytesToGo, h]

theorem bytesToGo_readData (h : s.rxState = .readData) :
    s.bytesToGo = 2 + ((ctlCount s.rxCtrl).toNat - s.rxIdx.toNat) := by rw [State.bytesToGo, h]

theorem bytesToGo_readCrc (h : s.rxState = .readCrc) : s.bytesToGo = 2 := by rw [State.bytesToGo, h]

theorem bytesToGo_expectStop (h : s.rxState = .expectStop) : s.bytesToGo = 1 := by rw [State.bytesToGo, h]

theorem bytesToGo_le (s : State) : s.bytesToGo ≤ 7 := by
  have hn : (ctlCount s.rxCtrl).toNat < 4 := (ctlCount s.rxCtrl).isLt
  unfold State.bytesToGo
  split <;> omega

/-- While a candidate frame is under way, every byte brings its end nearer. -/
theorem deliver_bytesToGo_lt (hinv : BlockInv s) (hmid : s.rxState ≠ .waitStart) (b : Byte) :
    ∃ t, deliver (rxByteInput b) s = .next t ∧ t.bytesToGo < s.bytesToGo := by
  cases hst : s.rxState with
  | waitStart => exact absurd hst hmid
  | readAddress =>
    exact ⟨_, deliver_address hst b, by rw [bytesToGo_readAddress hst, bytesToGo_readControl rfl]; decide⟩
  | readControl =>
    have hn : (ctlCount b).toNat < 4 := (ctlCount b).isLt
    refine ⟨_, deliver_control hst b, ?_⟩
    rw [bytesToGo_readControl hst]
    obtain ⟨hnext, -⟩ | ⟨hnext, -⟩ := afterHeader_cases b
    · rw [bytesToGo_readData hnext, captureControl_rxCtrl]
      omega
    · rw [bytesToGo_readCrc hnext]
      decide
  | readData =>
    have hidx := hinv.idxBelowCount hst
    have hn : (ctlCount s.rxCtrl).toNat < 4 := (ctlCount s.rxCtrl).isLt
    obtain ⟨t, ht⟩ := captureData_exists b (s := s) (by omega)
    refine ⟨t, deliver_data hst ht, ?_⟩
    rw [bytesToGo_readData hst]
    obtain ⟨d, -, ⟨-, rfl⟩ | ⟨-, rfl⟩⟩ := captureData_cases ht
    · have hsucc : (s.rxIdx + 1).toNat = s.rxIdx.toNat + 1 := toNat_succ_of_lt hidx
      rw [bytesToGo_readData (by exact hst)]
      dsimp only
      omega
    · rw [bytesToGo_readCrc rfl]
      omega
  | readCrc =>
    exact ⟨_, deliver_checksum hst b, by rw [bytesToGo_readCrc hst, bytesToGo_expectStop rfl]; decide⟩
  | expectStop =>
    obtain ⟨t, ht, hnext⟩ := deliver_expectStop hst b
    exact ⟨t, ht, by rw [bytesToGo_expectStop hst, bytesToGo_waitStart hnext]; decide⟩

end BytesToGo

/-- Given as many bytes as it may still take, the receiver reaches `WAIT_START` with the first `k` of them. -/
theorem exists_take_to_waitStart {bs : List Byte} {s : State} (hinv : BlockInv s) (hlen : s.bytesToGo ≤ bs.length) :
    ∃ k t, k ≤ bs.length ∧ feed (bs.take k) s = .next t ∧ t.rxState = .waitStart := by
  by_cases hst : s.rxState = .waitStart
  · exact ⟨0, s, Nat.zero_le _, rfl, hst⟩
  induction bs generalizing s with
  | nil =>
    obtain ⟨t, -, hlt⟩ := deliver_bytesToGo_lt hinv hst 0
    exact absurd (hlt.trans_le hlen) (Nat.not_lt_zero _)
  | cons b bs ih =>
    obtain ⟨t, ht, hlt⟩ := deliver_bytesToGo_lt hinv hst b
    by_cases hback : t.rxState = .waitStart
    · exact ⟨1, t, by simp, (feed_cons ht []).1, hback⟩
    · obtain ⟨k, u, hk, hfeed, hu⟩ :=
        ih (hinv.exec ((deliver_rxByte b s).symm.trans ht)) (Nat.le_of_lt_succ (hlt.trans_le hlen)) hback
      exact ⟨k + 1, u, Nat.succ_le_succ hk, (feed_cons ht _).1.trans hfeed, hu⟩

/-- Settles O34. -/
theorem receiverReturnsToWaitStart : Obligations.ReceiverReturnsToWaitStart := by
  unfold Obligations.ReceiverReturnsToWaitStart
  refine ⟨fun s bs hinv hlen => ?bytes, fun _ => ⟨_, rfl, rfl⟩, fun _ => ⟨_, rfl, rfl⟩⟩
  case bytes =>
    rw [← hlen]
    exact exists_take_to_waitStart hinv (hlen ▸ bytesToGo_le s)

/-! ### Noise outside a frame (41_receiver.md R132) -/

/-- Bytes other than `START` are skipped one after another. -/
theorem takenSilently_noise {bs : List Byte} {s : State} (h : s.rxState = .waitStart)
    (hbs : ∀ b ∈ bs, b ≠ Config.START) : ∃ a, TakenSilently bs s (s.answering a) := by
  induction bs generalizing s with
  | nil => exact ⟨s.answer, .nil s⟩
  | cons b bs ih =>
    obtain ⟨hb, hrest⟩ := List.forall_mem_cons.mp hbs
    obtain ⟨a, ha⟩ := ih (s := s.answering .silent) h hrest
    exact ⟨a, .cons (deliver_skip h hb) rfl ha⟩

/-- Settles O17. -/
theorem noiseOutsideAFrameIsSkipped : Obligations.NoiseOutsideAFrameIsSkipped := by
  unfold Obligations.NoiseOutsideAFrameIsSkipped
  intro bs s hst hbs
  obtain ⟨a, hsilent⟩ := takenSilently_noise hst hbs
  obtain ⟨hfeed, hanswers⟩ := hsilent []
  rw [List.append_nil] at hfeed hanswers
  refine ⟨_, hfeed, rfl, fun a ha => ?_⟩
  rw [hanswers, feedAnswers, List.append_nil] at ha
  exact List.eq_of_mem_replicate ha

/-! ### A frame that arrives whole (41_receiver.md R144, R146) -/

/-- A list of the right shape is a frame on the wire with as many data bytes as its control byte announces
(30_encoding.md R70). -/
theorem WellShaped.exists_wireFrame {bs : List Byte} (h : WellShaped bs) :
    ∃ aw c dw k, dw.length = (ctlCount c).toNat ∧ bs = wireFrame aw c dw k := by
  obtain ⟨hmin, hstart, hlen, hstop⟩ := h
  match bs with
  | [] | [_] | [_, _] => simp at hmin
  | b :: aw :: c :: rest =>
    have hrestLen : rest.length = (ctlCount c).toNat + 2 := by
      have hall : rest.length + 3 = 5 + (ctlCount c).toNat := hlen
      omega
    obtain ⟨k, e, hend⟩ : ∃ k e, rest.drop (ctlCount c).toNat = [k, e] :=
      List.length_eq_two.mp (by rw [List.length_drop, hrestLen, Nat.add_sub_cancel_left])
    have hrest : rest = rest.take (ctlCount c).toNat ++ [k, e] := by rw [← hend, List.take_append_drop]
    have hlast : (b :: aw :: c :: rest).getLast? = some e := by
      rw [hrest]
      change ((b :: aw :: c :: rest.take (ctlCount c).toNat) ++ [k, e]).getLast? = some e
      rw [List.getLast?_append]
      rfl
    have he : e = Config.STOP := by
      rw [List.getLast?_eq_getElem?] at hlast
      exact (byteOf_of_getElem? hlast).symm.trans hstop
    have hb : b = Config.START := hstart
    refine ⟨aw, c, rest.take (ctlCount c).toNat, k, by rw [List.length_take, hrestLen]; omega, ?_⟩
    rw [hb, wireFrame, List.append_assoc, ← he, ← hrest]
    rfl

/-- What decodes to a frame has passed the framing test (40_codec.md R111). -/
theorem wellShaped_of_decodeFrame {bs : List Byte} {f : Frame} (h : decodeFrame bs = .frame f) : WellShaped bs := by
  by_contra hshape
  rw [decodeFrame_of_not_wellShaped hshape] at h
  cases h

/-- Settles O31: the receiver collects the fields that `DECODE` reads, and `VALIDATE` gives both the same verdict. -/
theorem receiverAgreesWithDecode : Obligations.ReceiverAgreesWithDecode := by
  unfold Obligations.ReceiverAgreesWithDecode
  intro bs f s hst hdec
  obtain ⟨aw, c, dw, k, hlen, rfl⟩ := (wellShaped_of_decodeFrame hdec).exists_wireFrame
  obtain ⟨d, i, hd, hfeed, hanswers⟩ := feed_wireFrame hst aw hlen k
  have hv : (s.candidate aw c d i k).validated = .frame f :=
    (candidate_validated aw c d i k s).trans ((decodeFrame_wireFrame hd aw k).symm.trans hdec)
  rw [closeFrame_of_frame hv] at hfeed hanswers
  refine ⟨_, hfeed, rfl, rfl, publish_publishedFrame hv, rfl, rfl, ?answers⟩
  case answers =>
    have hcount : (wireFrame aw c dw k).length - 1 = 4 + dw.length := by
      rw [wireFrame_length]
      omega
    rw [hcount]
    exact hanswers

/-- Settles O32: what `ENCODE` sends, `DECODE` reads back, and the receiver publishes what `DECODE` reads. -/
theorem canonicalFrameIsPublished : Obligations.CanonicalFrameIsPublished := by
  unfold Obligations.CanonicalFrameIsPublished
  intro dir addr data s hdata hst
  obtain ⟨t, hfeed, hwait, hready, hframe, -, -, hanswers⟩ :=
    receiverAgreesWithDecode _ _ s hst (decodeFrame_encodeFrame dir addr hdata)
  have hcount : (encodeFrame dir addr data).length - 1 = 4 + data.length := by
    rw [encodeFrame_length]
    omega
  rw [hcount] at hanswers
  exact ⟨t, _, _, hfeed, hwait, hready, hframe, hanswers⟩

end Sys2Proof.Machine
end

section
/-! PROOFS. 42_transmitter.md: TX.LOAD (O35), TX.NEXT (O36), and the transmission of a frame by the two (O37). -/

namespace Sys2Proof.Machine

/-! ### TX.NEXT (42_transmitter.md R162) -/

theorem exec_txNext_of_idle {s : State} (h : s.txBusy = false) : exec .txNext s = .next (s.answering .silent) := by
  change execTxNext s = _
  simp [execTxNext, h]

theorem exec_txNext_of_busy {s : State} {b : Byte} (h : s.txBusy = true) (hb : s.txBuf.get s.txPos.toNat = some b) :
    exec .txNext s = .next (s.emitTx b) := by
  change execTxNext s = _
  simp [execTxNext, h, hb]

/-- Settles O36. -/
theorem txNextEmitsOneByte : Obligations.TxNextEmitsOneByte :=
  fun _ => ⟨exec_txNext_of_idle, fun _ => exec_txNext_of_busy⟩

/-! ### TX.LOAD (42_transmitter.md R161) -/

section Load

variable (dir : Bool) (addr : Byte) (p : Payload) {s : State}

theorem exec_txLoad_of_idle (h : s.txBusy = false) :
    exec (.txLoad dir addr p) s = .next (s.loadTx (encodeFrame dir addr (payloadBytes p))) := by
  change execTxLoad dir addr p s = _
  simp [execTxLoad, h]

theorem exec_txLoad_of_busy (h : s.txBusy = true) : exec (.txLoad dir addr p) s = .next (s.refuse .txBusy) := by
  change execTxLoad dir addr p s = _
  simp [execTxLoad, h]

/-- `tx_len` counts the five framing bytes and the `n` data bytes. -/
theorem loadTx_encodeFrame_txLen :
    (s.loadTx (encodeFrame dir addr (payloadBytes p))).txLen = 5 + p.n.setWidth 4 := by
  have hn : p.n.toNat < 4 := p.n.isLt
  apply BitVec.eq_of_toNat_eq
  rw [loadTx_txLen, encodeFrame_length, payloadBytes_length]
  simp

end Load

/-- Settles O35. -/
theorem txLoadArmsTheSequencer : Obligations.TxLoadArmsTheSequencer := by
  unfold Obligations.TxLoadArmsTheSequencer
  intro dir addr p s
  refine ⟨fun hidle => ⟨_, exec_txLoad_of_idle dir addr p hidle, ?registers, ?buffer⟩, exec_txLoad_of_busy dir addr p⟩
  case registers =>
    rw [← loadTx_encodeFrame_txLen dir addr p (s := s)]
    rfl
  case buffer => exact (loadTx_first s (encodeFrame_payload_length dir addr p).2).2

/-! ### A frame on its way out (42_transmitter.md R162, R164) -/

/-- The bytes still to be emitted are `l`, from `tx_buf[tx_pos]` up to `tx_len`. -/
structure State.Sending (s : State) (l : List Byte) : Prop where
  busy : s.txBusy = !l.isEmpty
  length : s.txPos.toNat + l.length = s.txLen.toNat
  bytes : (s.txBuf.first s.txLen).drop s.txPos.toNat = l

section Sending

variable {s t u : State} {b : Byte} {l : List Byte}

/-- TX.LOAD leaves the whole frame to be sent. -/
theorem sending_loadTx (s : State) (hne : l ≠ []) (hl : l.length ≤ 8) : (s.loadTx l).Sending l where
  busy := by simpa using hne
  length := by rw [loadTx_txPos, (loadTx_first s hl).1]; exact Nat.zero_add _
  bytes := (loadTx_first s hl).2

/-- The byte that TX.NEXT reads is the first of those still to be sent. -/
theorem State.Sending.get (h : s.Sending (b :: l)) : s.txBuf.get s.txPos.toNat = some b := by
  have hlen := h.length
  rw [List.length_cons] at hlen
  have hpos : s.txPos.toNat < s.txLen.toNat := by omega
  calc s.txBuf.get s.txPos.toNat = (s.txBuf.first s.txLen)[s.txPos.toNat]? := (List.getElem?_take_of_lt hpos).symm
    _ = ((s.txBuf.first s.txLen).drop s.txPos.toNat)[0]? := by simp
    _ = some b := by rw [h.bytes]; rfl

/-- Emitting the first byte leaves the others to be sent. -/
theorem State.Sending.emitTx (h : s.Sending (b :: l)) : (s.emitTx b).Sending l := by
  have hlen := h.length
  rw [List.length_cons] at hlen
  have hpos : (s.txPos + 1).toNat = s.txPos.toNat + 1 := toNat_succ_of_lt (n := s.txLen) (by omega)
  refine ⟨?busy, ?length, ?bytes⟩
  case busy =>
    have hend : s.txPos + 1 = s.txLen ↔ l = [] := by
      rw [← BitVec.toNat_inj, hpos, ← List.length_eq_zero_iff]
      omega
    rw [emitTx_txBusy, Bool.eq_iff_iff, bne_iff_ne, Ne, hend]
    simp
  case length =>
    rw [emitTx_txPos, emitTx_txLen, hpos]
    omega
  case bytes =>
    rw [emitTx_txBuf, emitTx_txPos, emitTx_txLen, hpos, ← List.tail_drop, h.bytes]
    rfl

/-- Nothing is left to be sent exactly at the end of the frame. -/
theorem State.Sending.eq_sent (h : s.Sending []) : s = { s with txPos := s.txLen, txBusy := false } :=
  congrArg₂ (fun pos busy => { s with txPos := pos, txBusy := busy }) (BitVec.eq_of_toNat_eq h.length) h.busy

theorem drain_succ {n : Nat} {as : List Answer} (ht : exec .txNext s = .next t) (hu : drain n t = some (as, u)) :
    drain (n + 1) s = some (t.answer :: as, u) := by
  simp only [drain, ht, hu]

/-- As many TX.NEXT as there are bytes to be sent emit them in order, and leave the transmitter idle at the end of the
frame and everything else as it was. -/
theorem drain_of_sending (h : s.Sending l) :
    ∃ a, drain l.length s =
      some (l.map fun b => .emits (.txByte b), { s with txPos := s.txLen, txBusy := false, answer := a }) := by
  induction l generalizing s with
  | nil => exact ⟨s.answer, congrArg (fun t => some ([], t)) h.eq_sent⟩
  | cons b l ih =>
    obtain ⟨a, ha⟩ := ih h.emitTx
    exact ⟨a, drain_succ (exec_txNext_of_busy h.busy h.get) ha⟩

end Sending

/-- Settles O37: a loaded frame is all there is to be sent, and is sent in as many TX.NEXT as it has bytes. -/
theorem loadedFrameIsTransmittedInOrder : Obligations.LoadedFrameIsTransmittedInOrder := by
  unfold Obligations.LoadedFrameIsTransmittedInOrder
  intro dir addr p s hidle
  obtain ⟨hlo, hhi⟩ := encodeFrame_payload_length dir addr p
  have hne : encodeFrame dir addr (payloadBytes p) ≠ [] := List.ne_nil_of_length_pos (by omega)
  obtain ⟨a, hdrain⟩ := drain_of_sending (sending_loadTx s hne hhi)
  rw [encodeFrame_length, payloadBytes_length] at hdrain
  exact ⟨_, _, exec_txLoad_of_idle dir addr p hidle, hdrain, rfl, rfl, exec_txNext_of_idle rfl⟩

end Sys2Proof.Machine
end

section
/-! PROOFS. 43_host_and_environment.md: the host's operations (O38 to O40) and the environment's filter and dispatcher
(O58). -/

namespace Sys2Proof.Machine

/-! ### HOST.ACK and HOST.CLRERR (43_host_and_environment.md R176, R177) -/

/-- Only a received byte is decoded by `rx_state` and only its operand is read: an event of another kind selects in every
state, with every operand byte, what it selects in `WAIT_START` with operand 0 (30_encoding.md R81, R82). -/
theorem decode_event_of_kind_ne_zero {k : BitVec 4} (hk : k ≠ 0) (st : RxState) (b : Byte) (txop : BitVec 35) :
    decode st (.event (k ++ b) txop) = decode .waitStart (.event (k ++ 0#8) txop) := by
  simp only [decode, decodeEvent, evKind_append]
  split
  case h_1 h => exact absurd (BitVec.eq_of_toNat_eq h) hk
  all_goals rfl

/-- Settles O38. -/
theorem hostAckClearsFrameReady : Obligations.HostAckClearsFrameReady :=
  ⟨fun _ => rfl, decode_event_of_kind_ne_zero (by decide)⟩

/-- Settles O39. -/
theorem hostClrerrClearsTheErrorStatus : Obligations.HostClrerrClearsTheErrorStatus :=
  ⟨fun _ => rfl, decode_event_of_kind_ne_zero (by decide), rfl⟩

/-! ### HOST.READ (43_host_and_environment.md R178) -/

theorem getElem?_toList (x : Bytes3) (i : Nat) : x.toList[i]? = x.get i := by
  match i with
  | 0 | 1 | 2 | _ + 3 => rfl

/-- Below `n`, the first `n` elements are the array's own. -/
theorem getElem?_first (x : Bytes3) {n : BitVec 2} {i : Nat} (h : i < n.toNat) : (x.first n)[i]? = x.get i :=
  (List.getElem?_take_of_lt h).trans (getElem?_toList x i)

theorem exec_hostRead_of_ready {s : State} (h : s.frameReady = true) :
    exec .hostRead s = .next (s.answering (.emits (.readResult s.publishedFrame))) :=
  if_pos h

theorem exec_hostRead_of_not_ready {s : State} (h : s.frameReady = false) :
    exec .hostRead s = .next (s.refuse .noFrame) :=
  if_neg (Bool.eq_false_iff.mp h)

/-- Settles O40: what is read is the published frame, whose data are the first `out_n` elements of `out_data`. -/
theorem hostReadReturnsThePublishedFrame : Obligations.HostReadReturnsThePublishedFrame := by
  unfold Obligations.HostReadReturnsThePublishedFrame
  intro s
  refine ⟨fun hready => ?read, exec_hostRead_of_not_ready⟩
  case read =>
    exact ⟨s.publishedFrame, exec_hostRead_of_ready hready, rfl, rfl, rfl, rfl, first_length s.outData s.outN,
      fun _ hi => getElem?_first s.outData hi⟩

/-! ### The command of a request (43_host_and_environment.md R188 to R191) -/

theorem commandOf_assignAddress (a : Byte) (l : List Byte) : commandOf (0x01#8 :: a :: l) = .assignAddress a := rfl

theorem commandOf_readEncoder (l : List Byte) : commandOf (0x02#8 :: l) = .readEncoder := by
  cases l with
  | nil | cons => rfl

theorem commandOf_unsupported {c : Byte} (hassign : c ≠ 0x01#8) (hread : c ≠ 0x02#8) (l : List Byte) :
    commandOf (c :: l) = .unsupported c := by
  cases l with
  | nil | cons => rw [commandOf, if_neg hassign, if_neg hread]

/-! ### The filter, the dispatcher and the restart (43_host_and_environment.md R185, R186, R189 to R191) -/

section React

variable {node : Node} {raw : Option Bytes3} {f : Frame}

theorem addressMatches_iff : addressMatches node f = true ↔ f.addr = node.address := beq_iff_eq

theorem react_of_other_address (h : f.addr ≠ node.address) : react node raw f = .ignore :=
  if_neg (mt addressMatches_iff.mp h)

theorem react_of_assignAddress {a : Byte} (h : f.addr = node.address) (hc : commandOf f.data = .assignAddress a) :
    react node raw f = .replyThenRestart [a] a := by
  simp only [react, if_pos (addressMatches_iff.mpr h), hc]

theorem react_of_readEncoder {r : Bytes3} (h : f.addr = node.address) (hc : commandOf f.data = .readEncoder)
    (hraw : raw = some r) : react node raw f = .reply r.toList := by
  simp only [react, if_pos (addressMatches_iff.mpr h), hc, hraw]

theorem react_of_unsupported {c : Byte} (h : f.addr = node.address) (hc : commandOf f.data = .unsupported c) :
    react node raw f = .reply [0x45#8] := by
  simp only [react, if_pos (addressMatches_iff.mpr h), hc]

end React

/-- A node starts under the stored address, unless that is the byte that says there is none (R186). -/
theorem nodeStart_address {a : Byte} (h : a ≠ 0xFF#8) : (nodeStart a).address = a := if_neg h

/-- Settles O58: the address decides whether there is a reaction, and the command which one. -/
theorem dispatcherAnswersByCommandCode : Obligations.DispatcherAnswersByCommandCode := by
  unfold Obligations.DispatcherAnswersByCommandCode
  intro node raw f
  refine ⟨react_of_other_address, fun a l haddr hdata => ?assign, fun r l haddr hdata hraw => ?read,
    fun c l haddr hdata hassign hread => ?unsupported⟩
  case assign =>
    have hreact : react node raw f = .replyThenRestart [a] a :=
      react_of_assignAddress haddr (hdata ▸ commandOf_assignAddress a l)
    refine ⟨hreact, fun hstored => ?restarted⟩
    case restarted =>
      rw [hreact]
      exact congrArg some (nodeStart_address hstored)
  case read => exact react_of_readEncoder haddr (hdata ▸ commandOf_readEncoder l) hraw
  case unsupported => exact react_of_unsupported haddr (hdata ▸ commandOf_unsupported hassign hread l)

end Sys2Proof.Machine
end

section
/-! PROOFS. 60_exceptions.md: the discard sequence (O26) and the rights of the contexts (O45). -/

namespace Sys2Proof.Machine

/-! ### The discard sequence (60_exceptions.md R216) -/

/-- Settles O26: the three operations that discard are RX.STOP (R138), RX.BADSTOP (R139) and RX.LINE_ERR (R141). -/
theorem discardSequenceChangesNothingElse : Obligations.DiscardSequenceChangesNothingElse := by
  unfold Obligations.DiscardSequenceChangesNothingElse
  intro s discarded
  obtain ⟨-, hstop⟩ := rxStopPublishesOrDiscards
  obtain ⟨hbadstop, -, -, hcodeStop⟩ := rxBadstopDiscards
  obtain ⟨hlineErr, -, hcodeLine⟩ := rxLineErrDiscardsInAnyState
  obtain ⟨-, hchecksum⟩ := hstop s
  exact ⟨hchecksum, fun b => hbadstop b s, hlineErr s, hcodeStop, hcodeLine, rfl⟩

/-! ### The rights of each context (20_memory.md R61, 60_exceptions.md R225) -/

section Rights

variable {i : Instr} {s t : State}

/-- An answer publishes a frame or does not. -/
theorem publishes_cases (a : Answer) : a.publishes = false ∨ ∃ f, a = .emits (.published f) := by
  cases a with
  | emits o =>
    cases o with
    | published f => exact .inr ⟨f, rfl⟩
    | discarded | txByte | readResult => exact .inl rfl
  | silent | refuses | computes => exact .inl rfl

/-- Only HOST.ACK and RESET clear `frame_ready`: a publication sets it and everything else leaves it alone. -/
theorem exec_keeps_frameReady (h : exec i s = .next t) (hack : i ≠ .hostAck) (hreset : i ≠ .reset)
    (hready : s.frameReady = true) : t.frameReady = true := by
  obtain hno | ⟨f, ha⟩ := publishes_cases t.answer
  · obtain ⟨-, -, -, -, -, -, hsame⟩ := publishedFrameIsWrittenByPublicationOnly i s t h hreset hno
    exact (hsame hack).trans hready
  · obtain ⟨-, -, -, hset⟩ := everyPublishedFrameIsValidated i s t f h ha
    exact hset

/-- Only HOST.CLRERR and RESET clear the error status: a discard sets both of its registers and everything else leaves
them alone. -/
theorem exec_keeps_errorStatus (h : exec i s = .next t) (hclrerr : i ≠ .hostClrerr) (hreset : i ≠ .reset) :
    (s.rxError = true → t.rxError = true) ∧ (s.rxCause ≠ .none → t.rxCause ≠ .none) := by
  obtain ⟨c, hc, -, herror, hcause, -⟩ | ⟨-, herror, hcause⟩ := errorStatusRecordsDiscardsOnly i s t h hclrerr hreset
  · exact ⟨fun _ => herror, fun _ => hcause ▸ hc⟩
  · exact ⟨herror.trans, hcause.trans_ne⟩

/-- The receiver does not touch the transmitter. -/
theorem exec_transmitter_of_receive (hi : contextOf i = .receive) (h : exec i s = .next t) :
    t.txBuf = s.txBuf ∧ t.txLen = s.txLen ∧ t.txPos = s.txPos ∧ t.txBusy = s.txBusy := by
  cases i with
  | rxData b =>
    obtain ⟨d, -, ⟨-, rfl⟩ | ⟨-, rfl⟩⟩ := captureData_cases (execRxData_cases h) <;> exact ⟨rfl, rfl, rfl, rfl⟩
  | rxStop =>
    cases h
    obtain ⟨f, -, hc⟩ | ⟨-, hc⟩ := closeFrame_cases s <;> rw [hc] <;> exact ⟨rfl, rfl, rfl, rfl⟩
  | rxStart | rxSkip | rxAddr | rxCtrl | rxCrc | rxBadstop | rxLineErr =>
    cases h
    exact ⟨rfl, rfl, rfl, rfl⟩
  | _ => cases hi

/-- The host writes the flags and the transmitter, and never sets a receiver flag: HOST.ACK clears `frame_ready`,
HOST.CLRERR the error status, and the other two leave the flags alone. -/
theorem exec_rights_of_host (hi : contextOf i = .host) (h : exec i s = .next t) :
    t = { s with frameReady := t.frameReady, rxError := t.rxError, rxCause := t.rxCause, txBuf := t.txBuf,
                 txLen := t.txLen, txPos := t.txPos, txBusy := t.txBusy, answer := t.answer,
                 freeCount := t.freeCount } ∧
      (t.frameReady = true → s.frameReady = true) ∧ (t.rxError = true → s.rxError = true) ∧
      (t.rxCause = s.rxCause ∨ t.rxCause = .none) := by
  cases i with
  | hostAck => cases h; exact ⟨rfl, nofun, id, .inl rfl⟩
  | hostClrerr => cases h; exact ⟨rfl, id, nofun, .inr rfl⟩
  | hostRead => obtain ⟨-, rfl⟩ | ⟨-, rfl⟩ := execHostRead_cases h <;> exact ⟨rfl, id, id, .inl rfl⟩
  | txLoad dir addr p => obtain ⟨-, rfl⟩ | ⟨-, rfl⟩ := execTxLoad_cases h <;> exact ⟨rfl, id, id, .inl rfl⟩
  | _ => cases hi

/-- TX.NEXT moves the sequencer on and touches nothing else. -/
theorem exec_frame_of_transmit (hi : contextOf i = .transmit) (h : exec i s = .next t) :
    t = { s with txPos := t.txPos, txBusy := t.txBusy, answer := t.answer } := by
  cases i with
  | txNext => obtain ⟨-, rfl⟩ | ⟨b, -, -, rfl⟩ := execTxNext_cases h <;> rfl
  | _ => cases hi

end Rights

/-- Settles O45: no receiver operation is one of the three that clear a flag, and each other context has its own frame. -/
theorem contextsKeepTheirRights : Obligations.ContextsKeepTheirRights := by
  unfold Obligations.ContextsKeepTheirRights
  intro i s t h
  refine ⟨fun hi => ?receive, fun hi => exec_rights_of_host hi h, fun hi => exec_frame_of_transmit hi h,
    fun hi => ?outside⟩
  case receive =>
    have hne : ∀ j, contextOf j ≠ .receive → i ≠ j := fun j hj he => hj (he ▸ hi)
    have hreset : i ≠ .reset := hne .reset nofun
    obtain ⟨herror, hcause⟩ := exec_keeps_errorStatus h (hne .hostClrerr nofun) hreset
    exact ⟨exec_keeps_frameReady h (hne .hostAck nofun) hreset, herror, hcause, exec_transmitter_of_receive hi h⟩
  case outside =>
    obtain ⟨a, hexec, -⟩ := exec_of_outside hi
    cases (hexec s).symm.trans h
    rfl

end Sys2Proof.Machine
end

section
/-! PROOFS. 70_reset_and_hazards.md: RESET (O41, O42), and the absence of traps (O53). -/

namespace Sys2Proof.Machine

/-! ### RESET (70_reset_and_hazards.md R240, R243) -/

/-- Settles O41. -/
theorem resetGivesTheSpecifiedValues : Obligations.ResetGivesTheSpecifiedValues :=
  ⟨fun s => ⟨s.resetBlock, rfl, rfl⟩, decode_event_of_kind_ne_zero (by decide)⟩

/-- RESET touches neither the outstanding events nor the line, so it makes a launch state where both are empty. -/
theorem launch_resetBlock {s : State} (hinput : s.input = []) (hecho : s.echo = none) : Launch s.resetBlock where
  rxState := resetBlock_rxState s
  rxIdx := resetBlock_rxIdx s
  frameReady := resetBlock_frameReady s
  rxError := resetBlock_rxError s
  rxCause := resetBlock_rxCause s
  txLen := resetBlock_txLen s
  txPos := resetBlock_txPos s
  txBusy := resetBlock_txBusy s
  input := (resetBlock_input s).trans hinput
  echo := (resetBlock_echo s).trans hecho

/-- Settles O42. -/
theorem resetIsALaunchState : Obligations.ResetIsALaunchState := by
  unfold Obligations.ResetIsALaunchState
  refine ⟨launch_reset, fun s t hinput hecho h => ?made⟩
  case made =>
    cases h
    exact launch_resetBlock hinput hecho

/-! ### No step stops in a state with the invariant (70_reset_and_hazards.md R244) -/

theorem exists_get_of_lt (x : Bytes8) {i : Nat} (h : i < 8) : ∃ b, x.get i = some b :=
  ⟨_, List.getElem?_eq_getElem h⟩

/-- Every item but a call of an operation that is no function selects an operation (30_encoding.md R82, R83). -/
theorem exists_decode_eq_ok (st : RxState) {x : Input} (hx : ∀ i, x = .call i → i.isFunc = true) :
    ∃ i, decode st x = .ok i := by
  cases x with
  | event ev txop => exact ⟨decodeEvent st ev txop, rfl⟩
  | byte8 b => exact ⟨decodeByte8 b, rfl⟩
  | call i => exact ⟨i, if_pos (hx i rfl)⟩

/-- The item taken next is an outstanding one or a byte heard, which is no call. -/
theorem call_mem_input_of_fetch {s u : State} {i : Instr} (h : s.fetch = some (.call i, u)) :
    Input.call i ∈ s.input := by
  obtain ⟨rest, -, hinput, -⟩ | ⟨b, -, -, hx, -⟩ | ⟨rest, -, hinput, -⟩ := fetch_cases h
  · simp [hinput]
  · cases hx
  · simp [hinput]

section Progress

variable {s : State}

/-- RX.DATA finds its element: the index is below a count of at most 3 (10_state.md R41). -/
theorem BlockInv.exists_exec_rxData (h : BlockInv s) (hst : s.rxState = .readData) (b : Byte) :
    ∃ t, Machine.exec (.rxData b) s = .next t := by
  have hidx := h.idxBelowCount hst
  have hcount : (ctlCount s.rxCtrl).toNat < 4 := (ctlCount s.rxCtrl).isLt
  obtain ⟨t, ht⟩ := captureData_exists b (s := s) (by omega)
  obtain ⟨d, hd, -⟩ := captureData_cases ht
  exact ⟨_, exec_rxData_of_set hd⟩

/-- TX.NEXT finds its byte: while busy, the position is below a length of at most 8 (10_state.md R43). -/
theorem BlockInv.exists_exec_txNext (h : BlockInv s) : ∃ t, Machine.exec .txNext s = .next t := by
  cases hbusy : s.txBusy with
  | false => exact ⟨_, exec_txNext_of_idle hbusy⟩
  | true =>
    obtain ⟨-, hlen, hpos⟩ := h.busyInRange hbusy
    obtain ⟨b, hb⟩ := exists_get_of_lt s.txBuf (Nat.lt_of_lt_of_le hpos hlen)
    exact ⟨_, exec_txNext_of_busy hbusy hb⟩

/-- RX.DATA and TX.NEXT alone can stop, and the invariant excludes both cases. -/
theorem BlockInv.exists_exec (h : BlockInv s) {i : Instr} (hsel : i.selectedIn s.rxState = true) :
    ∃ t, Machine.exec i s = .next t := by
  cases i with
  | rxData b => exact h.exists_exec_rxData (eq_of_beq hsel) b
  | txNext => exact h.exists_exec_txNext
  | hostRead =>
    cases hready : s.frameReady with
    | true => exact ⟨_, exec_hostRead_of_ready hready⟩
    | false => exact ⟨_, exec_hostRead_of_not_ready hready⟩
  | txLoad dir addr p =>
    cases hbusy : s.txBusy with
    | true => exact ⟨_, exec_txLoad_of_busy dir addr p hbusy⟩
    | false => exact ⟨_, exec_txLoad_of_idle dir addr p hbusy⟩
  | _ => exact ⟨_, rfl⟩

/-- An item that selects an operation is taken: the operation is one of the present `rx_state`, and listening never
stops. -/
theorem BlockInv.exists_takeItem (h : BlockInv s) {x : Input} {i : Instr} (hd : decode s.rxState x = .ok i) :
    ∃ t, Machine.takeItem x s = .next t := by
  obtain ⟨t, ht⟩ := h.exists_exec (decode_selectedIn hd)
  exact ⟨t.hearOwn, by rw [Machine.takeItem, deliver_of_decode hd, ht]⟩

end Progress

/-- Settles O53: with nothing to take the block holds its state, and whatever it takes selects an operation. -/
theorem invariantStatesNeverStop : Obligations.InvariantStatesNeverStop := by
  unfold Obligations.InvariantStatesNeverStop
  intro s hs hcalls
  cases hf : s.fetch with
  | none => exact ⟨_, step_of_fetch_none hf⟩
  | some p =>
    obtain ⟨x, u⟩ := p
    have hfunc : ∀ i, x = .call i → i.isFunc = true := fun i hx => hcalls i (call_mem_input_of_fetch (hx ▸ hf))
    obtain ⟨i, hd⟩ := exists_decode_eq_ok u.rxState hfunc
    rw [step_of_fetch hf]
    exact (hs.fetch hf).exists_takeItem hd

end Sys2Proof.Machine
end

section
/-! PROOFS. The accesses to an element that a register array does not have (10_state.md R20; O27). -/

namespace Sys2Proof.Machine

theorem set_eq_none_of_le (x : Bytes3) {i : Nat} (v : Byte) (h : 3 ≤ i) : x.set i v = none :=
  Option.not_isSome_iff_eq_none.mp (by simp [set_isSome, h])

theorem get_eq_none_of_le (x : Bytes8) {i : Nat} (h : 8 ≤ i) : x.get i = none :=
  List.getElem?_eq_none h

/-- Where `tx_buf` has no element at the position, TX.NEXT stops. -/
theorem exec_txNext_of_no_element {s : State} (hbusy : s.txBusy = true) (hget : s.txBuf.get s.txPos.toNat = none) :
    exec .txNext s = .fault .txBufIndex := by
  change execTxNext s = _
  simp [execTxNext, hbusy, hget]

/-- Settles O27: index 3 is past `rx_data[2]`, and a position of 8 or more is past `tx_buf[7]`. -/
theorem accessOutsideARegisterArrayFaults : Obligations.AccessOutsideARegisterArrayFaults := by
  unfold Obligations.AccessOutsideARegisterArrayFaults
  refine ⟨fun b s hidx => ?rxData, fun s hbusy hpos => ?txNext⟩
  case rxData =>
    have hthree : 3 ≤ s.rxIdx.toNat := by rw [hidx]; decide
    exact exec_rxData_of_no_element (set_eq_none_of_le s.rxData b hthree)
  case txNext => exact exec_txNext_of_no_element hbusy (get_eq_none_of_le s.txBuf hpos)

end Sys2Proof.Machine
end
